-- ==== Sys2Proof/Config.lean ====
section
/-!
DEFINITION. What one implementation of the block fixes (00_scope.md R5) and the model's free value.

The other parameters of R5 stand where they act: `SCALE` and `TBL` in Machine/Tables.lean, the count's width in the
types of `N` and `IDX`, and the two OPEN ones, `AW` and `Admit`, in the fields `aw` and `admission` of State
(Machine/State.lean; log entries 1 and 2).
-/

namespace Sys2Proof.Config

/-- The default of `AW`, the width of a byte address (R5). `AW` itself is OPEN, an argument of the machine: the field `aw` of
State (log entry 1). -/
def defaultAW : Nat := 32

/-- The one width for which a descriptor has a packed form (30_encoding.md R85). -/
def packedAW : Nat := 32

/-- FREE VALUE, log entry 7. Which of its two values one destination byte holds after a reset that interrupted a
command (70_reset_and_hazards.md R252: "which of the two, per byte, is unspecified"). The first argument counts such
resets, the second is the byte's address; `true` stands for the value the completed command would have written. -/
opaque resetDraw : Nat → Nat → Bool

end Sys2Proof.Config
end

