-- ==== Sys2Proof/Word.lean ====
section
/-!
DEFINITION. The word types of the block (00_scope.md R6, 30_encoding.md R85).

A byte address is a plain Nat: an integer of `[0, 2^AW)` (00_scope.md R10), computed exactly and never wrapped (30_encoding.md
R88). `AW` is an argument of the machine, so the bound stands beside the type: in `Instr.fits`, in the launch preconditions
and in `State.Legal`.
-/

namespace Sys2Proof

/-- A channel value or a memory byte: 8 bits, unsigned (R6, R83). -/
abbrev Byte := BitVec 8

/-- The packed command descriptor `CMD[127:0]` (R85). -/
abbrev CmdWord := BitVec 128

end Sys2Proof
end

