-- ==== Sys2Proof/Syntax.lean ====
section
/-!
DEFINITION. The command set (30_encoding.md R86, R92): two commands, each with the operands `dst, src, pixels`.
-/

namespace Sys2Proof

/-- The engine register `OP` and the descriptor field of that name: which conversion (R24, R86). -/
inductive Op where
  | rgb2ycc   -- 0
  | ycc2rgb   -- 1
  deriving DecidableEq, Repr

/-- A command, with its operands in the order of R92. `pixels` is the raw 32-bit field `PIXELS`, read as a two's
complement number (R87). -/
inductive Instr where
  | rgb2ycc (dst src : Nat) (pixels : BitVec 32)
  | ycc2rgb (dst src : Nat) (pixels : BitVec 32)
  deriving DecidableEq, Repr

/-- The `OP` that spells a command, with its operands (30_encoding.md R86). -/
def command (op : Op) (dst src : Nat) (pixels : BitVec 32) : Instr :=
  match op with
  | .rgb2ycc => .rgb2ycc dst src pixels
  | .ycc2rgb => .ycc2rgb dst src pixels

/-- The `DST` field of a command. -/
def Instr.dst : Instr → Nat
  | .rgb2ycc d _ _ => d
  | .ycc2rgb d _ _ => d

/-- The `SRC` field of a command. -/
def Instr.src : Instr → Nat
  | .rgb2ycc _ s _ => s
  | .ycc2rgb _ s _ => s

/-- The `PIXELS` field of a command. -/
def Instr.pixels : Instr → BitVec 32
  | .rgb2ycc _ _ p => p
  | .ycc2rgb _ _ p => p

end Sys2Proof
end

