-- ==== Sys2Proof/WellFormed.lean ====
section
/-!
DEFINITION. Which terms of `Instr` spell a command (30_encoding.md R87, R90).
-/

namespace Sys2Proof

/-- `DST` and `SRC` are byte addresses of `AW` bits (R85). -/
def Instr.fits (aw : Nat) (i : Instr) : Bool := decide (i.dst < 2 ^ aw) && decide (i.src < 2 ^ aw)

/-- The terms that spell a command where addresses have `aw` bits. A negative `PIXELS` spells none (R87, R90). Reserved bits
have no place in `Instr`: the decoder rejects them. -/
def Instr.wellFormed (aw : Nat) (i : Instr) : Bool := i.fits aw && decide (0 ≤ i.pixels.toInt)

end Sys2Proof
end

