-- ==== Sys2Proof/Decode.lean ====
section
/-!
DEFINITION. The packed descriptor `F-CMD` (30_encoding.md R85, R86, R90) read and written.
-/

namespace Sys2Proof

/-- Why a descriptor is read as no command. `NegativeCount` is no reason here: it is launch precondition 2
(44_engine_control.md R192), checked with the others in Machine/Ops.lean. -/
inductive DecodeError where
  /-- `CMD[31:1]` is not zero (R90). -/
  | reservedBits
  deriving DecidableEq, Repr

/-- `CMD[0]` (R85). -/
def cmdOp (cmd : CmdWord) : BitVec 1 := cmd.extractLsb' 0 1

/-- `CMD[31:1]`, reserved (R85, R90). -/
def cmdReserved (cmd : CmdWord) : BitVec 31 := cmd.extractLsb' 1 31

/-- `CMD[63:32]` (R85). -/
def cmdSrc (cmd : CmdWord) : BitVec 32 := cmd.extractLsb' 32 32

/-- `CMD[95:64]` (R85). -/
def cmdDst (cmd : CmdWord) : BitVec 32 := cmd.extractLsb' 64 32

/-- `CMD[127:96]` (R85). -/
def cmdPixels (cmd : CmdWord) : BitVec 32 := cmd.extractLsb' 96 32

/-- The command a packed descriptor spells (R85, R86), or why it spells none (R90). A negative `PIXELS` is decoded, and refused
at launch in its place of R193's order (DEDUCED, log entry 25). -/
def decode (cmd : CmdWord) : Except DecodeError Instr :=
  if cmdReserved cmd ≠ 0#31 then .error .reservedBits
  else if cmdOp cmd = 0#1 then .ok (.rgb2ycc (cmdDst cmd).toNat (cmdSrc cmd).toNat (cmdPixels cmd))
  else .ok (.ycc2rgb (cmdDst cmd).toNat (cmdSrc cmd).toNat (cmdPixels cmd))

/-- `{PIXELS, DST, SRC, 0 (31 bits), OP}` (R85). -/
def packCmd (op : BitVec 1) (dst src pixels : BitVec 32) : CmdWord :=
  pixels ++ dst ++ src ++ 0#31 ++ op

/-- The packed descriptor of a command whose addresses have 32 bits (R85, R86). -/
def encode : Instr → CmdWord
  | .rgb2ycc dst src pixels => packCmd 0#1 (BitVec.ofNat 32 dst) (BitVec.ofNat 32 src) pixels
  | .ycc2rgb dst src pixels => packCmd 1#1 (BitVec.ofNat 32 dst) (BitVec.ofNat 32 src) pixels

/-- The descriptor whose low `nbits` bits are those of `w` and whose other bits are 0, bits numbered as in
spec/opcode_table.json (`CMD[0]` is bit 0). -/
def packTableWord (nbits w : Nat) : CmdWord := BitVec.ofNat 128 (w % 2 ^ nbits)

/-- What the decoder reads from an opcode-table word. -/
def decodeTableWord (nbits w : Nat) : Option Instr :=
  match decode (packTableWord nbits w) with
  | .ok i => some i
  | .error _ => none

end Sys2Proof
end

