-- ==== Sys2Proof/Machine/State.lean ====
section
/-!
DEFINITION. The machine's state as plain data (10_state.md R20, R24, R27), why a step can stop, and the state after reset.
-/

namespace Sys2Proof.Machine

/-- Why the machine stops. The block raises no exception (60_exceptions.md R220): both reasons concern states that no
run reaches, in which the spec enables no step or gives an access no place. -/
inductive Fault where
  /-- Raised by the engine step when `BUSY = 1` and `IDX > N`: neither the pixel step (R194) nor the completion step
  (R197) is enabled. No run reaches it (R31). Safe. Log entry 11. -/
  | noStepEnabled
  /-- Raised by the pixel step when a byte of its source or destination pixel would lie outside `[0, 2^AW)`
  (20_memory.md R50). No run reaches it (44_engine_control.md R195). Safe. Log entry 11. -/
  | outsideMemory
  deriving DecidableEq, Repr

/-- The refusal reasons: "a closed enumeration with exactly these six constructors" (60_exceptions.md R221). Each is raised by a
launch of either command and by nothing else; a refused launch changes nothing (R192). All are safe: nothing is claimed of a
refused run. -/
inductive RefusalReason where
  /-- Launch precondition 1: `CMD[31:1]` is not 0 (R192 row 1). Raised when the descriptor on the port is decoded. Safe. -/
  | reservedBits
  /-- Launch precondition 2: `PIXELS < 0` (R192 row 2). Safe. -/
  | negativeCount
  /-- Launch precondition 3: `SRC + 4*PIXELS > 2^AW` (R192 row 3). Safe. -/
  | srcWrap
  /-- Launch precondition 4: `DST + 4*PIXELS > 2^AW` (R192 row 4). Safe. -/
  | dstWrap
  /-- Launch precondition 5: the regions meet and `DST ≠ SRC` (R192 row 5, 20_memory.md R62). Safe. -/
  | partialOverlap
  /-- Launch precondition 6: some byte of the footprint is not admitted (R192 row 6). Safe. -/
  | notAdmitted
  deriving DecidableEq, Repr

/-- Why a step has no meaning, in the form the task gives the machine's interface. -/
inductive Refusal where
  /-- Raised by a launch of either command that fails a precondition, with the spec's reason (R221). Safe. -/
  | launch (reason : RefusalReason)
  /-- No reason of the spec's. Raised by no meaning and by no step: it is the task's own, for an instruction whose arm of `exec` is rejected by name, of
  which there is none (log entry 18). Safe. -/
  | notModelled (mnemonic : String)
  deriving DecidableEq, Repr

/-- A half-open range `[base, limit)` of byte addresses. -/
structure Region where
  base : Nat
  limit : Nat
  deriving DecidableEq, Repr

/-- One move of the host (44_engine_control.md R190, R204). It is made when the spec gives the host that move, and waits until
then (`State.grants` in Machine/Turn.lean, log entry 6). -/
inductive HostMove where
  /-- Present a packed descriptor on the command port (R191, 30_encoding.md R85). -/
  | command (cmd : CmdWord)
  /-- Present a descriptor as separate signals, the form R85 gives for any `AW`; it has no reserved bits (R90). -/
  | signals (op : Op) (dst src : Nat) (pixels : BitVec 32)
  /-- Write one byte of memory (R204). -/
  | write (a : Nat) (b : Byte)
  /-- Read one byte of memory (R204). Plain memory: a read has no effect (20_memory.md R56). -/
  | read (a : Nat)
  /-- Assert the reset input (70_reset_and_hazards.md R250, R252). -/
  | reset
  /-- Do nothing for one turn: the engine takes its step, if it has one. -/
  | idle
  deriving DecidableEq, Repr

/-- Data memory (10_state.md R27): the listed bytes in rising order of address, none equal to what an unlisted address
reads as (`Memory.wf` in Machine/Ops.lean). -/
abbrev Memory := List Host.Cell

/-- Everything the machine holds. `busy .. idx` are the six engine registers (R24), `mem` is data memory (R27). The last
five fields are the model's own: the platform's parameters `AW` and `Admit` (R5, R32), the host's moves still to come (R190,
R204), and what a reset during a command needs (R252). -/
structure State where
  /-- `BUSY`: a command is in progress. -/
  busy : Bool
  /-- `OP`: the latched command. -/
  op : Op
  /-- `SRC`: byte address of the first source byte, `AW` bits wide. -/
  src : Nat
  /-- `DST`: byte address of the first destination byte, `AW` bits wide. -/
  dst : Nat
  /-- `N`: the count of pixels. -/
  n : BitVec 31
  /-- `IDX`: the index of the next pixel, the block's program counter (R22). -/
  idx : BitVec 32
  /-- `Mem`. -/
  mem : Memory
  /-- `AW`: the width of a byte address; memory has `2^AW` bytes. No step changes it. Log entry 1. -/
  aw : Nat
  /-- `Admit`: the byte addresses the engine may access are those in some range of this list. No step changes it
  (93_implementation_defined.md U23). Log entry 2. -/
  admission : List Region
  /-- The host's moves still to come, the next one first. Log entry 5. -/
  host : List HostMove
  /-- The memory as it was at the last launch. Log entry 7. -/
  before : Memory
  /-- How many resets have interrupted a command: the argument of the free value `Config.resetDraw`. Log entry 7. -/
  draws : Nat
  deriving DecidableEq, Repr

/-- The machine right after reset (10_state.md R30). `BUSY = 0` is stated. `OP, SRC, DST, N, IDX` hold values the model
chose (DESIGN CHOICE, unsafe, log entry 3): nothing reads them before a launch writes them. Memory lists nothing (log
entry 4); `AW` is 32, the default (log entry 1); every address is admitted (log entry 2); the host has no move to make (log entry 5). -/
def State.reset : State where
  busy := false
  op := .rgb2ycc
  src := 0
  dst := 0
  n := 0
  idx := 0
  mem := []
  aw := Config.defaultAW
  admission := [⟨0, 2 ^ Config.defaultAW⟩]
  host := []
  before := []
  draws := 0

end Sys2Proof.Machine
end

