-- ==== Sys2Proof/Machine/Flags.lean ====
section
/-!
DEFINITION. The value functions that end a computation: the floor shift, the clamp and the narrowing to a byte
(00_scope.md R7, R8). The block has NO flag and no condition code (10_state.md R23): neither the shift nor a clamp leaves
a trace, and the one status bit is `BUSY`.
-/

namespace Sys2Proof.Machine

/-- `asr(v, s) = floor(v / 2^s)` on every integer (R7): Lean's integer division by a positive number rounds toward
negative infinity. -/
def asr (v : Int) (s : Nat) : Int := v / 2 ^ s

/-- `clamp255(v)` (R8). -/
def clamp255 (v : Int) : Int := if v ≤ 0 then 0 else if 255 ≤ v then 255 else v

theorem asr_scale (v : Int) : asr v scale = v / 64 := by simp [asr, scale]

theorem clamp255_range (v : Int) : 0 ≤ clamp255 v ∧ clamp255 v ≤ 255 := by
  unfold clamp255; split <;> (try split) <;> omega

/-- A value of `0 .. 255` as a byte, its value unchanged. It needs the proof that the value is in range, so no cast wraps
(41_forward_converter.md R133, 91_not_in_source.md N15). -/
def byteOfRange (v : Int) (h : 0 ≤ v ∧ v ≤ 255) : Byte := BitVec.ofNatLT v.toNat (by omega)

@[simp] theorem byteOfRange_toNat (v : Int) (h : 0 ≤ v ∧ v ≤ 255) : (byteOfRange v h).toNat = v.toNat := by
  simp [byteOfRange]

/-- The byte stands for the value it was made from. -/
theorem byteOfRange_toInt (v : Int) (h : 0 ≤ v ∧ v ≤ 255) : ((byteOfRange v h).toNat : Int) = v := by
  rw [byteOfRange_toNat]; omega

end Sys2Proof.Machine
end

