-- ==== Sys2Proof/Machine/Operands.lean ====
section
/-!
DEFINITION. Operand forms: a pixel in memory and its two readings (30_encoding.md R81, R82, 20_memory.md R51), the
effective addresses (44_engine_control.md R195) and the regions a command names (R192).
-/

namespace Sys2Proof.Machine

/-- The four bytes of a pixel at offsets `k = 0, 1, 2, 3` (20_memory.md R51). -/
structure Pixel where
  k0 : Byte
  k1 : Byte
  k2 : Byte
  k3 : Byte
  deriving DecidableEq, Repr

/-- `F-PIX-RGBX` (30_encoding.md R81). -/
structure Rgbx where
  r : Byte
  g : Byte
  b : Byte
  x : Byte
  deriving DecidableEq, Repr

/-- `F-PIX-YCCX` (30_encoding.md R82): `cb` and `cr` are stored with the bias 128 (R83). -/
structure Yccx where
  y : Byte
  cb : Byte
  cr : Byte
  x : Byte
  deriving DecidableEq, Repr

/-- Byte `k` of a pixel (R51). -/
def Pixel.byte (p : Pixel) : Nat → Byte
  | 0 => p.k0
  | 1 => p.k1
  | 2 => p.k2
  | _ => p.k3

/-- The four bytes read as `R, G, B, X` (R51). -/
def Pixel.asRgbx (p : Pixel) : Rgbx := ⟨p.k0, p.k1, p.k2, p.k3⟩

/-- The four bytes read as `Y, Cb, Cr, X` (R51). -/
def Pixel.asYccx (p : Pixel) : Yccx := ⟨p.k0, p.k1, p.k2, p.k3⟩

/-- `R, G, B, X` laid out at offsets `0 .. 3` (R51). -/
def Rgbx.bytes (p : Rgbx) : Pixel := ⟨p.r, p.g, p.b, p.x⟩

/-- `Y, Cb, Cr, X` laid out at offsets `0 .. 3` (R51). -/
def Yccx.bytes (p : Yccx) : Pixel := ⟨p.y, p.cb, p.cr, p.x⟩

/-- The address of byte 0 of pixel `i` of the buffer at `base`: the exact sum (30_encoding.md R88, R195). -/
def pixelAddr (base i : Nat) : Nat := base + 4 * i

/-- `a` lies in the region `[base, base + 4 * count)` (R192: `S` and `D`). -/
def inRegion (base count a : Nat) : Bool := base ≤ a && a < base + 4 * count

/-- `sa`: where the next source pixel starts (R194, R195). -/
def State.sourceAddr (s : State) : Nat := pixelAddr s.src s.idx.toNat

/-- `da`: where the next destination pixel starts (R194, R195). -/
def State.destAddr (s : State) : Nat := pixelAddr s.dst s.idx.toNat

/-- `a` lies in `S`, the source region of the latched command. -/
def State.inSource (s : State) (a : Nat) : Bool := inRegion s.src s.n.toNat a

/-- `a` lies in `D`, the destination region of the latched command. -/
def State.inDest (s : State) (a : Nat) : Bool := inRegion s.dst s.n.toNat a

/-- The command in progress: the engine's program is the latched descriptor (20_memory.md R66). -/
def State.current (s : State) : Instr := command s.op s.dst s.src (s.n.setWidth 32)

end Sys2Proof.Machine
end

