-- ==== Sys2Proof/Machine/Ops.lean ====
section
/-!
DEFINITION. The named operations over memory and registers: byte access, pixel access, `Admit`, the launch preconditions and
the latch, completion, and what reset does to the registers. The block takes no exception and returns from none
(60_exceptions.md R220, R225, R226), so there is no such operation.
-/

namespace Sys2Proof.Machine

/-! ### Memory -/

/-- What an address that memory does not list reads as: `00H`. The spec leaves the contents at power-up open (10_state.md
R30, 93_implementation_defined.md U14). DESIGN CHOICE, unsafe, log entry 4. -/
def unlistedByte : Byte := 0#8

/-- `Mem[a]` (20_memory.md R50, R56). -/
def Memory.read (m : Memory) (a : Nat) : Byte :=
  match m with
  | [] => unlistedByte
  | (c, v) :: rest => if c = a then v else Memory.read rest a

/-- A cell put before a list, unless it holds what an unlisted address reads as. -/
def Memory.cons (a : Nat) (b : Byte) (m : Memory) : Memory := if b = unlistedByte then m else (a, b) :: m

/-- `Mem[a] <- b` (R50, R56), keeping the canonical form. -/
def Memory.write (m : Memory) (a : Nat) (b : Byte) : Memory :=
  match m with
  | [] => Memory.cons a b []
  | (c, v) :: rest =>
    if a < c then Memory.cons a b ((c, v) :: rest)
    else if a = c then Memory.cons a b rest
    else (c, v) :: Memory.write rest a b

/-- The canonical form from address `lo` on. -/
def Memory.wfFrom (lo : Nat) (m : Memory) : Bool :=
  match m with
  | [] => true
  | (a, v) :: rest => lo ≤ a && v != unlistedByte && Memory.wfFrom (a + 1) rest

/-- The canonical form of memory: addresses strictly rising, no entry equal to what an unlisted address reads as. -/
def Memory.wf (m : Memory) : Bool := Memory.wfFrom 0 m

/-- Memory lists addresses below `size` only (R27: `size` is `2^AW`). -/
def Memory.within (size : Nat) (m : Memory) : Bool := m.all fun c => c.1 < size

/-- `MemRead(a, 4)` (00_scope.md R10, 44_engine_control.md R196). -/
def Memory.readPixel (m : Memory) (a : Nat) : Pixel := ⟨m.read a, m.read (a + 1), m.read (a + 2), m.read (a + 3)⟩

/-- `MemWrite(a, 4, p)`: four byte writes at ascending addresses (R10, R196). -/
def Memory.writePixel (m : Memory) (a : Nat) (p : Pixel) : Memory :=
  (((m.write a p.k0).write (a + 1) p.k1).write (a + 2) p.k2).write (a + 3) p.k3

/-! ### Admit -/

/-- `Admit(a)` (00_scope.md R5). -/
def admits (admission : List Region) (a : Nat) : Bool := admission.any fun r => r.base ≤ a && a < r.limit

/-- `Admit` holds of every address of `[lo, hi)`: what a range leaves uncovered, the later ranges cover. -/
def admitsRange (admission : List Region) (lo hi : Nat) : Bool :=
  match admission with
  | [] => hi ≤ lo
  | r :: rest => hi ≤ lo || (admitsRange rest lo (min hi r.base) && admitsRange rest (max lo r.limit) hi)

/-! ### Launch -/

/-- `S ∩ D = ∅` or `DST = SRC`, for regions of `4 * p` bytes (20_memory.md R61). -/
def overlapLegal (src dst p : Nat) : Bool := p = 0 || src = dst || src + 4 * p ≤ dst || dst + 4 * p ≤ src

/-- `addr + 4 * p` runs past `2^AW`, or `addr` is no address of `AW` bits (for `p = 0` the spec takes the latter for granted:
44_engine_control.md R192, "since `SRC < 2^AW`"). -/
def wraps (aw addr p : Nat) : Bool := 2 ^ aw < addr + 4 * p || 2 ^ aw ≤ addr

/-- The first launch precondition of R192, rows 2 to 6, that the descriptor fails, in the order of R193. Row 1
(`ReservedBits`) is the decoder's. -/
def launchRefusal (aw : Nat) (admission : List Region) (src dst : Nat) (pixels : BitVec 32) :
    Option RefusalReason :=
  if pixels.toInt < 0 then some .negativeCount
  else if wraps aw src pixels.toNat then some .srcWrap
  else if wraps aw dst pixels.toNat then some .dstWrap
  else if !overlapLegal src dst pixels.toNat then some .partialOverlap
  else if !(admitsRange admission src (src + 4 * pixels.toNat)
      && admitsRange admission dst (dst + 4 * pixels.toNat)) then some .notAdmitted
  else none

/-- The launch's register writes (44_engine_control.md R191). `before` keeps the memory as it is now. -/
def State.latch (s : State) (op : Op) (src dst : Nat) (pixels : BitVec 32) : State :=
  { s with busy := true, op := op, src := src, dst := dst, n := pixels.setWidth 31, idx := 0, before := s.mem }

/-- Launch, the acceptance of a descriptor when `BUSY = 0` (R191), or its refusal with nothing changed (R192). -/
def launch (op : Op) (src dst : Nat) (pixels : BitVec 32) (s : State) : Host.Outcome State Fault Refusal :=
  match launchRefusal s.aw s.admission src dst pixels with
  | some reason => .refused (.launch reason)
  | none => .next (s.latch op src dst pixels)

/-! ### The other register writes -/

/-- What a pixel step leaves: the memory it wrote, and `IDX <- IDX + 1` (R194). -/
def State.pixelDone (s : State) (m : Memory) : State := { s with mem := m, idx := s.idx + 1 }

/-- The completion step's effect: `BUSY <- 0` and nothing else (R197). -/
def State.complete (s : State) : State := { s with busy := false }

/-- The memory replaced: a write by the host. -/
def State.setMem (s : State) (m : Memory) : State := { s with mem := m }

/-- The host's list of moves replaced. -/
def State.setHost (s : State) (moves : List HostMove) : State := { s with host := moves }

/-- Reset's effect on the registers (70_reset_and_hazards.md R250): `BUSY <- 0`, and the other five registers hold what
they hold in `State.reset` (DEDUCED, log entry 8). `m` is the memory after the reset, `k` the count of draws. -/
def State.resetTo (s : State) (m : Memory) (k : Nat) : State :=
  { State.reset with mem := m, aw := s.aw, admission := s.admission, host := s.host, draws := k }

end Sys2Proof.Machine
end

