-- ==== Sys2Proof/Machine/Forward.lean ====
section
/-!
DEFINITION. The forward pixel function (41_forward_converter.md R130), with the proof that the tables keep it in range
(40_forward_tables.md R127), which its narrowing to bytes needs (R133).
-/

namespace Sys2Proof.Machine

/-- `sY` (R130). -/
def lumaSum (r g b : Byte) : Int := (tbl .yR).entry r + (tbl .yG).entry g + (tbl .yB).entry b

/-- `sCb` (R130). -/
def cbSum (r g b : Byte) : Int := (tbl .cbR).entry r + (tbl .cbG).entry g + (tbl .cbB).entry b

/-- `sCr` (R130). -/
def crSum (r g b : Byte) : Int := (tbl .crR).entry r + (tbl .crG).entry g + (tbl .crB).entry b

/-- `Y`, before it is stored: one shift of the exact sum (R130, R131). -/
def luma (r g b : Byte) : Int := asr (lumaSum r g b) scale

/-- `Cb`: the bias 128 is added after the shift (R130). -/
def chromaB (r g b : Byte) : Int := asr (cbSum r g b) scale + 128

/-- `Cr`: the bias 128 is added after the shift (R130). -/
def chromaR (r g b : Byte) : Int := asr (crSum r g b) scale + 128

/-- Every entry of a table lies between bounds that its listing meets. -/
theorem Table.entry_between (t : Table) (lo hi : Int) (h : t.entries.all (fun e => decide (lo ≤ e ∧ e ≤ hi)) = true)
    (v : Byte) : lo ≤ t.entry v ∧ t.entry v ≤ hi := by
  simpa using List.all_eq_true.mp h (t.entry v) (List.getElem_mem _)

/-- The nine ranges of 40_forward_tables.md R125 (c). -/
theorem forward_ranges (v : Byte) :
    (0 ≤ (tbl .yR).entry v ∧ (tbl .yR).entry v ≤ 4880) ∧ (0 ≤ (tbl .yG).entry v ∧ (tbl .yG).entry v ≤ 9580) ∧
    (0 ≤ (tbl .yB).entry v ∧ (tbl .yB).entry v ≤ 1860) ∧ (-2753 ≤ (tbl .cbR).entry v ∧ (tbl .cbR).entry v ≤ 0) ∧
    (-5405 ≤ (tbl .cbG).entry v ∧ (tbl .cbG).entry v ≤ 0) ∧ (0 ≤ (tbl .cbB).entry v ∧ (tbl .cbB).entry v ≤ 8160) ∧
    (0 ≤ (tbl .crR).entry v ∧ (tbl .crR).entry v ≤ 8160) ∧ (-6832 ≤ (tbl .crG).entry v ∧ (tbl .crG).entry v ≤ 0) ∧
    (-1326 ≤ (tbl .crB).entry v ∧ (tbl .crB).entry v ≤ 0) :=
  ⟨Table.entry_between _ _ _ (by decide +kernel) v, Table.entry_between _ _ _ (by decide +kernel) v,
   Table.entry_between _ _ _ (by decide +kernel) v, Table.entry_between _ _ _ (by decide +kernel) v,
   Table.entry_between _ _ _ (by decide +kernel) v, Table.entry_between _ _ _ (by decide +kernel) v,
   Table.entry_between _ _ _ (by decide +kernel) v, Table.entry_between _ _ _ (by decide +kernel) v,
   Table.entry_between _ _ _ (by decide +kernel) v⟩

/-- `Y` needs no clamp (R127). -/
theorem luma_range (r g b : Byte) : 0 ≤ luma r g b ∧ luma r g b ≤ 255 := by
  have hr := forward_ranges r; have hg := forward_ranges g; have hb := forward_ranges b
  rw [luma, asr_scale, lumaSum]; omega

/-- `Cb` needs no clamp (R127). -/
theorem chromaB_range (r g b : Byte) : 0 ≤ chromaB r g b ∧ chromaB r g b ≤ 255 := by
  have hr := forward_ranges r; have hg := forward_ranges g; have hb := forward_ranges b
  rw [chromaB, asr_scale, cbSum]; omega

/-- `Cr` needs no clamp (R127). -/
theorem chromaR_range (r g b : Byte) : 0 ≤ chromaR r g b ∧ chromaR r g b ≤ 255 := by
  have hr := forward_ranges r; have hg := forward_ranges g; have hb := forward_ranges b
  rw [chromaR, asr_scale, crSum]; omega

/-- `FwdPixel` (R130): no clamp (R133), `X` copied (R134). -/
def fwdPixel (p : Rgbx) : Yccx where
  y := byteOfRange (luma p.r p.g p.b) (luma_range p.r p.g p.b)
  cb := byteOfRange (chromaB p.r p.g p.b) (chromaB_range p.r p.g p.b)
  cr := byteOfRange (chromaR p.r p.g p.b) (chromaR_range p.r p.g p.b)
  x := p.x

end Sys2Proof.Machine
end

