-- ==== Sys2Proof/Machine/Reverse.lean ====
section
/-!
DEFINITION. The reverse pixel function (43_reverse_converter.md R170).
-/

namespace Sys2Proof.Machine

/-- `r`, before the clamp: `Y` is added after the shift (R170, R171). -/
def redValue (y cr : Byte) : Int := y.toNat + asr ((tbl .rCr).entry cr) scale

/-- `g`, before the clamp: the two entries are added first and shifted once (R170, R171). -/
def greenValue (y cb cr : Byte) : Int := y.toNat + asr ((tbl .gCb).entry cb + (tbl .gCr).entry cr) scale

/-- `b`, before the clamp (R170, R171). -/
def blueValue (y cb : Byte) : Int := y.toNat + asr ((tbl .bCb).entry cb) scale

/-- A value saturated to a byte (R172): it never wraps, and no flag records it (R173). -/
def saturate (v : Int) : Byte := byteOfRange (clamp255 v) (clamp255_range v)

/-- `RevPixel` (R170): each channel clamped by itself (R173), `X` copied (R175). -/
def revPixel (p : Yccx) : Rgbx where
  r := saturate (redValue p.y p.cr)
  g := saturate (greenValue p.y p.cb p.cr)
  b := saturate (blueValue p.y p.cb)
  x := p.x

end Sys2Proof.Machine
end

