-- ==== Sys2Proof/Machine/Engine.lean ====
section
/-!
DEFINITION. The engine while a command is in progress: the pixel step and the completion step (44_engine_control.md R194,
R197), the whole command as a function of memory (R202), and what a reset leaves (70_reset_and_hazards.md R250, R252).
-/

namespace Sys2Proof.Machine

/-- The conversion a command makes of one pixel's four bytes (R194). -/
def convert (op : Op) (p : Pixel) : Pixel :=
  match op with
  | .rgb2ycc => (fwdPixel p.asRgbx).bytes
  | .ycc2rgb => (revPixel p.asYccx).bytes

/-- Pixel step (R194, R195, R196): read four bytes, convert, write four bytes, `IDX <- IDX + 1`. It is one atomic step
(R194 allows it). Both pixels lie in memory in every state a run reaches (R195); elsewhere the step faults (log entry 11). -/
def pixelStep (s : State) : Host.Outcome State Fault Refusal :=
  if s.sourceAddr + 4 ≤ 2 ^ s.aw ∧ s.destAddr + 4 ≤ 2 ^ s.aw then
    .next (s.pixelDone (s.mem.writePixel s.destAddr (convert s.op (s.mem.readPixel s.sourceAddr))))
  else .fault .outsideMemory

/-- The engine's step while `BUSY = 1`: a pixel step when `IDX < N` (R194), the completion step when `IDX = N` (R197). The
spec enables no step when `IDX > N`, which no run reaches (R31; log entry 11). It works from the latched registers alone. -/
def engineStep (s : State) : Host.Outcome State Fault Refusal :=
  if s.idx.toNat < s.n.toNat then pixelStep s
  else if s.idx.toNat = s.n.toNat then .next s.complete
  else .fault .noStepEnabled

/-- The byte at `a` of `Run(d, M)` (R202): inside the destination region, byte `k` of the converted pixel of the same
index, read from the memory `m` before the command; elsewhere the byte of `m`. -/
def runByte (op : Op) (src dst count : Nat) (m : Memory) (a : Nat) : Byte :=
  if inRegion dst count a then
    (convert op (m.readPixel (pixelAddr src ((a - dst) / 4)))).byte ((a - dst) % 4)
  else m.read a

/-- One byte of the destination region after a reset that interrupted the command (R252): its value from before the launch
or the value the completed command would have written there, a free choice per byte. -/
def State.drawnByte (s : State) (a : Nat) : Byte :=
  if Config.resetDraw s.draws a then runByte s.op s.src s.dst s.n.toNat s.before a else s.before.read a

/-- `count` bytes of memory from `a` on, replaced by the bytes `f` gives. -/
def Memory.fill (f : Nat → Byte) (a count : Nat) (m : Memory) : Memory :=
  match count with
  | 0 => m
  | k + 1 => Memory.fill f (a + 1) k (m.write a (f a))

/-- The memory a reset leaves when it interrupts a command (R252): every byte outside `D` as it stands. -/
def State.abandonedMem (s : State) : Memory := Memory.fill s.drawnByte s.dst (4 * s.n.toNat) s.mem

/-- Reset, in any state (R250): with `BUSY = 0` memory is untouched; with `BUSY = 1` the command is abandoned (R252). -/
def State.takeReset (s : State) : State :=
  if s.busy then s.resetTo s.abandonedMem (s.draws + 1) else s.resetTo s.mem s.draws

end Sys2Proof.Machine
end

