-- ==== Sys2Proof/Machine/Commands.lean ====
section
/-!
DEFINITION. The meanings of the two commands (41_forward_converter.md R135, 43_reverse_converter.md R176), as one step of
the machine to which the command stands: with `BUSY = 0` its launch, with `BUSY = 1` the next step of the command in
progress.
-/

namespace Sys2Proof.Machine

/-- `RGB2YCC dst, src, pixels` (R135). With `BUSY = 0`: launch (44_engine_control.md R191, R192). With `BUSY = 1`: no command
is accepted and the one on the port has no effect; the engine takes its next step from the latched descriptor (R201),
which for this command, once launched, is its pixel step with `FwdPixel` and at last its completion. -/
def execRgb2ycc (dst src : Nat) (pixels : BitVec 32) (s : State) : Host.Outcome State Fault Refusal :=
  if s.busy then engineStep s else launch .rgb2ycc src dst pixels s

/-- `YCC2RGB dst, src, pixels` (R176). As `execRgb2ycc`, with `RevPixel` in the pixel step. -/
def execYcc2rgb (dst src : Nat) (pixels : BitVec 32) (s : State) : Host.Outcome State Fault Refusal :=
  if s.busy then engineStep s else launch .ycc2rgb src dst pixels s

end Sys2Proof.Machine
end

