-- ==== Sys2Proof/Machine/Dispatch.lean ====
section
/-!
DEFINITION. The command set's dispatch (30_encoding.md R86): one arm per constructor.
-/

namespace Sys2Proof.Machine

/-- One step of the machine to which the command `i` stands. -/
def exec (i : Instr) (s : State) : Host.Outcome State Fault Refusal :=
  match i with
  | .rgb2ycc dst src pixels => Sys2Proof.Machine.execRgb2ycc dst src pixels s
  | .ycc2rgb dst src pixels => Sys2Proof.Machine.execYcc2rgb dst src pixels s

end Sys2Proof.Machine
end

