-- ==== Sys2Proof/Machine/Turn.lean ====
section
/-!
DEFINITION. One step of the two agents (44_engine_control.md R190, R204): the host's next move says who acts.
-/

namespace Sys2Proof.Machine

/-- The engine's turn: the next step of the command in progress, which stands in the latched registers (20_memory.md R66);
an idle engine waits (70_reset_and_hazards.md R250), and the state stays as it is (log entry 16). -/
def engineTurn (s : State) : Host.Outcome State Fault Refusal :=
  if s.busy then exec s.current s else .next s

/-- The descriptor on the command port is taken with `BUSY = 0`: decoded and executed, or refused (R191, R192 row 1). -/
def acceptCommand (cmd : CmdWord) (s : State) : Host.Outcome State Fault Refusal :=
  match decode cmd with
  | .error .reservedBits => .refused (.launch .reservedBits)
  | .ok i => exec i s

/-- The spec gives the host this move in this state: a descriptor with `BUSY = 0` alone (R201), in packed form where `AW = 32`
alone (30_encoding.md R85) and as signals of `AW` bits; a write of any byte, outside `S` and `D` with `BUSY = 1`, and a read
of any byte, outside `D` with `BUSY = 1` (20_memory.md R68, R204); reset in any state (R250). -/
def State.grants (s : State) (m : HostMove) : Bool :=
  match m with
  | .command _ => !s.busy && s.aw == Config.packedAW
  | .signals op dst src pixels => !s.busy && (command op dst src pixels).fits s.aw
  | .write a _ => a < 2 ^ s.aw && !(s.busy && (s.inSource a || s.inDest a))
  | .read a => a < 2 ^ s.aw && !(s.busy && s.inDest a)
  | .reset => true
  | .idle => true

/-- What a move of the host does (R204). A read changes nothing (20_memory.md R56). -/
def makeMove (m : HostMove) (s : State) : Host.Outcome State Fault Refusal :=
  match m with
  | .command cmd => acceptCommand cmd s
  | .signals op dst src pixels => exec (command op dst src pixels) s
  | .write a b => .next (s.setMem (s.mem.write a b))
  | .read _ => .next s
  | .reset => .next s.takeReset
  | .idle => engineTurn s

/-- One step. The host makes its next move if the spec gives it that move now; otherwise the move waits and the engine goes on
(R201; 20_memory.md R68: "the model gives the host no move that breaks it"; log entry 6). A host with no move left lets the
engine go on. -/
def turn (s : State) : Host.Outcome State Fault Refusal :=
  match s.host with
  | [] => engineTurn s
  | m :: rest => if s.grants m then makeMove m (s.setHost rest) else engineTurn s

/-- The state in which the host presents the packed `cmd` next, to an idle engine of the one width that has packed
descriptors. -/
def State.present (s : State) (cmd : CmdWord) : State :=
  { s with busy := false, aw := Config.packedAW, host := .command cmd :: s.host }

end Sys2Proof.Machine
end

