-- ==== Sys2Proof/Machine/Step.lean ====
section
/-!
DEFINITION. The machine's step, and the state in which its next step runs a given opcode-table word.
-/

namespace Sys2Proof.Machine

/-- One step of the machine: one turn of the host and the engine (44_engine_control.md R190). -/
def step (s : State) : Host.Outcome State Fault Refusal := turn s

/-- `s` with the descriptor of an opcode-table word presented next on the command port, with `BUSY = 0`, without which no
command is accepted (R201), and `AW = 32`, without which there is no packed form (30_encoding.md R85). -/
def State.withFetchWord (s : State) (nbits w : Nat) : State := s.present (packTableWord nbits w)

end Sys2Proof.Machine
end

