-- ==== Sys2Proof/Safety.lean ====
section
/-!
DEFINITION. The terms in which claims about the machine are made: what a descriptor must meet to be launched, the
invariants of a run, and the run of one command.
-/

namespace Sys2Proof.Machine

/-- `S` and `D` share no byte, or `DST = SRC` (44_engine_control.md R192 row 5). -/
def RegionsLegal (dst src count : Nat) : Prop :=
  (∀ a, ¬ (inRegion src count a = true ∧ inRegion dst count a = true)) ∨ dst = src

/-- `Admit` holds of every byte of `S` and `D` (R192 row 6). -/
def FootprintAdmitted (admission : List Region) (dst src count : Nat) : Prop :=
  ∀ a, inRegion src count a = true ∨ inRegion dst count a = true → admits admission a = true

/-- Launch preconditions 2 to 6 (R192), as the spec words them, of a descriptor whose addresses have `aw` bits. -/
structure LaunchOk (aw : Nat) (admission : List Region) (dst src : Nat) (pixels : BitVec 32) : Prop where
  srcAddr : src < 2 ^ aw
  dstAddr : dst < 2 ^ aw
  count : 0 ≤ pixels.toInt
  srcFits : src + 4 * pixels.toNat ≤ 2 ^ aw
  dstFits : dst + 4 * pixels.toNat ≤ 2 ^ aw
  overlap : RegionsLegal dst src pixels.toNat
  admitted : FootprintAdmitted admission dst src pixels.toNat

/-- The registers `SRC` and `DST` hold addresses of `AW` bits (10_state.md R24), and 10_state.md R31 (a) and (b): with
`BUSY = 1`, `IDX <= N` and the launch preconditions hold of the latched descriptor. -/
structure State.Legal (s : State) : Prop where
  srcAddr : s.src < 2 ^ s.aw
  dstAddr : s.dst < 2 ^ s.aw
  index : s.busy = true → s.idx.toNat ≤ s.n.toNat
  srcFits : s.busy = true → s.src + 4 * s.n.toNat ≤ 2 ^ s.aw
  dstFits : s.busy = true → s.dst + 4 * s.n.toNat ≤ 2 ^ s.aw
  overlap : s.busy = true → RegionsLegal s.dst s.src s.n.toNat
  admitted : s.busy = true → FootprintAdmitted s.admission s.dst s.src s.n.toNat

/-- Memory, and the memory kept from the last launch, are in canonical form and list addresses below `2^AW` only. -/
structure State.Canonical (s : State) : Prop where
  mem : s.mem.wf = true
  before : s.before.wf = true
  memWithin : s.mem.within (2 ^ s.aw) = true
  beforeWithin : s.before.within (2 ^ s.aw) = true

/-- How far a command has come (60_exceptions.md R225): the destination pixels below `IDX` hold what `Run` gives, the
others what they held at the launch; and so does the rest of the source. -/
def State.Progress (s : State) : Prop :=
  s.busy = true →
    (∀ a, s.inDest a = true → a < s.destAddr →
      s.mem.read a = runByte s.op s.src s.dst s.n.toNat s.before a) ∧
    (∀ a, s.inDest a = true → s.destAddr ≤ a → s.mem.read a = s.before.read a) ∧
    (∀ a, s.inSource a = true → s.inDest a = false → s.mem.read a = s.before.read a)

/-- The host leaves the engine to itself: it has no move to make, or it waits with a command (30_encoding.md R92). -/
def State.hostWaits (s : State) : Bool :=
  match s.host with
  | [] => true
  | .command _ :: _ => true
  | .signals _ _ _ _ :: _ => true
  | _ => false

/-- `k` steps of the machine, stopping at the first fault or refusal. -/
def steps (k : Nat) (s : State) : Host.Outcome State Fault Refusal :=
  match k with
  | 0 => .next s
  | k + 1 =>
    match step s with
    | .next t => steps k t
    | .fault r => .fault r
    | .refused r => .refused r

/-- The launch of a command and the engine steps that end it: `PIXELS` pixel steps and one completion step (R205). -/
def runCommand (op : Op) (dst src : Nat) (pixels : BitVec 32) (s : State) : Host.Outcome State Fault Refusal :=
  match exec (command op dst src pixels) s with
  | .next t => steps (pixels.toNat + 1) t
  | o => o

/-- Two states that differ at most in what an idle engine's dead registers hold (R197, 10_state.md R24). -/
def State.Agree (s t : State) : Prop :=
  s.busy = t.busy ∧ s.mem = t.mem ∧ s.aw = t.aw ∧ s.admission = t.admission ∧ s.host = t.host ∧ s.draws = t.draws ∧
    (s.busy = true → s = t)

end Sys2Proof.Machine
end

