-- ==== Sys2Proof/Certificates/Slice0/Obligations.lean ====
section
/-!
DEFINITION. The statements for the provers: what the numbered rules of spec/ say the block does. Where the spec marks a rule,
or part of one, as its own inference from other rules ("[derived: ...]"), the docstring says "inferred in" and the rule;
where a statement rests on a choice of the model, the docstring names the log entry.
-/

open Sys2Proof Sys2Proof.Machine

/-! ### The value functions and the tables -/

/-- 00_scope.md R7: `asr(v, s)` is the greatest `q` with `q * 2^s <= v`, on every integer; with the rule's examples. -/
def Obligations.AsrIsFloorOfDivision : Prop :=
  (∀ (v : Int) (s : Nat), asr v s * 2 ^ s ≤ v ∧ ∀ q : Int, q * 2 ^ s ≤ v → q ≤ asr v s) ∧
  asr 16320 6 = 255 ∧ asr 2 6 = 0 ∧ asr (-1) 6 = -1 ∧ asr (-64) 6 = -1 ∧ asr (-65) 6 = -2 ∧
  asr (-8158) 6 = -128 ∧ asr (-11484) 6 = -180

/-- 00_scope.md R8: `clamp255`, with its range and the rule's examples. -/
def Obligations.ClampSaturates : Prop :=
  (∀ v : Int, (v ≤ 0 → clamp255 v = 0) ∧ (255 ≤ v → clamp255 v = 255) ∧ (0 < v → v < 255 → clamp255 v = v) ∧
    0 ≤ clamp255 v ∧ clamp255 v ≤ 255) ∧
  clamp255 (-1) = 0 ∧ clamp255 0 = 0 ∧ clamp255 1 = 1 ∧ clamp255 254 = 254 ∧ clamp255 255 = 255 ∧ clamp255 256 = 255

/-- 00_scope.md R9: `tdiv` truncates toward zero; `RoundTH` adds one half and truncates: nearest with halves up for
`N/D >= 0`, the ceiling (one more than nearest, when no integer) for `N/D <= -1/2`, 0 between; with the rule's examples. -/
def Obligations.RoundTHTruncates : Prop :=
  (∀ a b : Int, 0 < b → (0 ≤ a → tdiv a b = a / b) ∧ (a < 0 → tdiv a b = -((-a) / b))) ∧
  (∀ n d : Int, 0 < d →
    roundTH n d = tdiv (2 * n + d) (2 * d) ∧
    (0 ≤ n → roundTH n d = (2 * n + d) / (2 * d)) ∧
    (2 * n ≤ -d → roundTH n d = -((-(2 * n + d)) / (2 * d)) ∧
      (¬ (2 * d ∣ 2 * n + d) → roundTH n d = (2 * n + d) / (2 * d) + 1)) ∧
    (-d < 2 * n → n < 0 → roundTH n d = 0)) ∧
  roundTH 1913600 100000 = 19 ∧ roundTH 7654400 100000 = 77 ∧ roundTH (-1079936) 100000 = -10 ∧
  roundTH (-1121600000) 100000 = -11215

/-- 40_forward_tables.md R115 to R123: every entry of the nine forward tables is what the derivation gives. -/
def Obligations.ForwardTablesFollowDerivation : Prop :=
  ∀ v : Byte,
    (tbl .yR).entry v = roundTH (29900 * v.toNat * 64) 100000 ∧
    (tbl .yG).entry v = roundTH (58700 * v.toNat * 64) 100000 ∧
    (tbl .yB).entry v = roundTH (11400 * v.toNat * 64) 100000 ∧
    (tbl .cbR).entry v = roundTH (-16874 * v.toNat * 64) 100000 ∧
    (tbl .cbG).entry v = roundTH (-33126 * v.toNat * 64) 100000 ∧
    (tbl .cbB).entry v = roundTH (50000 * v.toNat * 64) 100000 ∧ (tbl .cbB).entry v = 32 * v.toNat ∧
    (tbl .crR).entry v = roundTH (50000 * v.toNat * 64) 100000 ∧ (tbl .crR).entry v = 32 * v.toNat ∧
    (tbl .crG).entry v = roundTH (-41869 * v.toNat * 64) 100000 ∧
    (tbl .crB).entry v = roundTH (-8131 * v.toNat * 64) 100000

/-- 42_reverse_tables.md R154 to R157: every entry of the four reverse tables is what the derivation gives. -/
def Obligations.ReverseTablesFollowDerivation : Prop :=
  ∀ v : Byte,
    (tbl .rCr).entry v = roundTH (140200 * (v.toNat - 128) * 64) 100000 ∧
    (tbl .gCb).entry v = roundTH (-34414 * (v.toNat - 128) * 64) 100000 ∧
    (tbl .gCr).entry v = roundTH (-71414 * (v.toNat - 128) * 64) 100000 ∧
    (tbl .bCb).entry v = roundTH (177200 * (v.toNat - 128) * 64) 100000

/-- The facts inferred in 40_forward_tables.md R125, items (a) to (f), from R113. -/
def Obligations.ForwardTableFacts : Prop :=
  (∀ r ∈ [Role.yR, .yG, .yB, .cbR, .cbG, .cbB, .crR, .crG, .crB], (tbl r).entry 0 = 0) ∧
  (∀ r ∈ [Role.yR, .yG, .yB, .cbB, .crR], ∀ v w : Byte, v ≤ w → (tbl r).entry v ≤ (tbl r).entry w) ∧
  (∀ r ∈ [Role.cbR, .cbG, .crG, .crB], ∀ v w : Byte, v ≤ w → (tbl r).entry w ≤ (tbl r).entry v) ∧
  [Role.yR, .yG, .yB, .cbR, .cbG, .cbB, .crR, .crG, .crB].map (fun r => (tbl r).entry 255) =
    [4880, 9580, 1860, -2753, -5405, 8160, 8160, -6832, -1326] ∧
  [Role.yR, .yG, .yB, .cbR, .cbG, .cbB, .crR, .crG, .crB].map (fun r => (tbl r).entry 128) =
    [2449, 4809, 934, -1381, -2713, 4096, 4096, -3429, -665] ∧
  (tbl .yR).entry 255 + (tbl .yG).entry 255 + (tbl .yB).entry 255 = 16320 ∧ (16320 : Int) = 255 * 64 ∧
  (∀ r ∈ [Role.yR, .yG, .yB, .cbR, .cbG, .cbB, .crR, .crG, .crB], ∀ v : Byte,
    -(2 ^ 15 : Int) ≤ (tbl r).entry v ∧ (tbl r).entry v < 2 ^ 15 ∧ -(2 ^ 14 : Int) ≤ (tbl r).entry v ∧
      (tbl r).entry v < 2 ^ 14)

/-- The facts inferred in 42_reverse_tables.md R159, items (a) to (g), from R153. -/
def Obligations.ReverseTableFacts : Prop :=
  (∀ r ∈ [Role.rCr, .gCb, .gCr, .bCb], (tbl r).entry 128 = 0) ∧
  (∀ r ∈ [Role.rCr, .bCb], ∀ v w : Byte, v ≤ w → (tbl r).entry v ≤ (tbl r).entry w) ∧
  (∀ r ∈ [Role.gCb, .gCr], ∀ v w : Byte, v ≤ w → (tbl r).entry w ≤ (tbl r).entry v) ∧
  [Role.rCr, .gCb, .gCr, .bCb].map (fun r => ((tbl r).entry 0, (tbl r).entry 255)) =
    [(-11484, 11395), (2819, -2796), (5850, -5804), (-14515, 14403)] ∧
  (∀ v : Byte, -180 ≤ asr ((tbl .rCr).entry v) 6 ∧ asr ((tbl .rCr).entry v) 6 ≤ 178) ∧
  asr ((tbl .rCr).entry 0) 6 = -180 ∧ asr ((tbl .rCr).entry 255) 6 = 178 ∧
  (∀ v : Byte, -227 ≤ asr ((tbl .bCb).entry v) 6 ∧ asr ((tbl .bCb).entry v) 6 ≤ 225) ∧
  asr ((tbl .bCb).entry 0) 6 = -227 ∧ asr ((tbl .bCb).entry 255) 6 = 225 ∧
  (∀ cb cr : Byte, -8600 ≤ (tbl .gCb).entry cb + (tbl .gCr).entry cr ∧ (tbl .gCb).entry cb + (tbl .gCr).entry cr ≤ 8669 ∧
    -135 ≤ asr ((tbl .gCb).entry cb + (tbl .gCr).entry cr) 6 ∧ asr ((tbl .gCb).entry cb + (tbl .gCr).entry cr) 6 ≤ 135) ∧
  (tbl .gCb).entry 255 + (tbl .gCr).entry 255 = -8600 ∧ (tbl .gCb).entry 0 + (tbl .gCr).entry 0 = 8669 ∧
  asr (-8600) 6 = -135 ∧ asr 8669 6 = 135 ∧
  (∀ (r : Role) (v : Byte), -(2 ^ 15 : Int) ≤ (tbl r).entry v ∧ (tbl r).entry v < 2 ^ 15 ∧
    -14515 ≤ (tbl r).entry v ∧ (tbl r).entry v ≤ 14515) ∧ (tbl .bCb).entry 0 = -14515 ∧
  (∀ r ∈ [Role.rCr, .gCb, .gCr, .bCb], ∀ q : Role, q ≠ r → ∃ v : Byte, (tbl q).entry v ≠ (tbl r).entry v) ∧
  (tbl .rCr).entry 3 = -11215 ∧ (tbl .rCr).entry 253 = 11216

/-- Inferred in 40_forward_tables.md R124 from R111 and R113: the two roles with coefficient one half hold `32 * v`, entry for entry. -/
def Obligations.SharedTableIsThirtyTwoTimesIndex : Prop :=
  ∀ v : Byte, (tbl .cbB).entry v = (tbl .crR).entry v ∧ (tbl .cbB).entry v = 32 * v.toNat ∧
    (tbl .crR).entry v = 32 * v.toNat

/-! ### The pixel functions -/

/-- 41_forward_converter.md R130: `FwdPixel`; the sum is shifted once, the bias added after the shift, `X` copied. -/
def Obligations.FwdPixelFormula : Prop :=
  ∀ r g b x : Byte,
    ((fwdPixel ⟨r, g, b, x⟩).y.toNat : Int) =
      asr ((tbl .yR).entry r + (tbl .yG).entry g + (tbl .yB).entry b) 6 ∧
    ((fwdPixel ⟨r, g, b, x⟩).cb.toNat : Int) =
      asr ((tbl .cbR).entry r + (tbl .cbG).entry g + (tbl .cbB).entry b) 6 + 128 ∧
    ((fwdPixel ⟨r, g, b, x⟩).cr.toNat : Int) =
      asr ((tbl .crR).entry r + (tbl .crG).entry g + (tbl .crB).entry b) 6 + 128 ∧
    (fwdPixel ⟨r, g, b, x⟩).x = x

/-- 43_reverse_converter.md R170: `RevPixel`; the shifted table term is added to `Y`, each channel is clamped, `X` copied. -/
def Obligations.RevPixelFormula : Prop :=
  ∀ y cb cr x : Byte,
    ((revPixel ⟨y, cb, cr, x⟩).r.toNat : Int) = clamp255 (y.toNat + asr ((tbl .rCr).entry cr) 6) ∧
    ((revPixel ⟨y, cb, cr, x⟩).g.toNat : Int) =
      clamp255 (y.toNat + asr ((tbl .gCb).entry cb + (tbl .gCr).entry cr) 6) ∧
    ((revPixel ⟨y, cb, cr, x⟩).b.toNat : Int) = clamp255 (y.toNat + asr ((tbl .bCb).entry cb) 6) ∧
    (revPixel ⟨y, cb, cr, x⟩).x = x

/-- 41_forward_converter.md R138, all but the first two values inferred there from R130 by evaluation:
black, white, mid-grey and the primaries; on the grey line the chroma is 128 and `Y` is `v`, but for the 22 listed values,
where it is `v - 1`. -/
def Obligations.ForwardKnownValues : Prop :=
  (∀ x : Byte, fwdPixel ⟨0, 0, 0, x⟩ = ⟨0, 128, 128, x⟩ ∧ fwdPixel ⟨255, 255, 255, x⟩ = ⟨255, 128, 128, x⟩ ∧
    fwdPixel ⟨128, 128, 128, x⟩ = ⟨128, 128, 128, x⟩ ∧ fwdPixel ⟨255, 0, 0, x⟩ = ⟨76, 84, 255, x⟩ ∧
    fwdPixel ⟨0, 255, 0, x⟩ = ⟨149, 43, 21, x⟩ ∧ fwdPixel ⟨0, 0, 255, x⟩ = ⟨29, 255, 107, x⟩) ∧
  ∀ v x : Byte, (fwdPixel ⟨v, v, v, x⟩).cb = 128 ∧ (fwdPixel ⟨v, v, v, x⟩).cr = 128 ∧
    (if v.toNat ∈ [11, 18, 25, 32, 55, 62, 69, 76, 99, 106, 113, 136, 143, 150, 157, 180, 187, 194, 201, 224, 231, 238]
      then (tbl .yR).entry v + (tbl .yG).entry v + (tbl .yB).entry v = 64 * v.toNat - 1 ∧
        (fwdPixel ⟨v, v, v, x⟩).y.toNat = v.toNat - 1
      else (fwdPixel ⟨v, v, v, x⟩).y = v)

/-- Inferred in 43_reverse_converter.md R179 from R170 by evaluation: the neutral axis is exact; the extremes; the clamp edges. -/
def Obligations.ReverseKnownValues : Prop :=
  (∀ y x : Byte, revPixel ⟨y, 128, 128, x⟩ = ⟨y, y, y, x⟩ ∧ (tbl .rCr).entry 128 = 0 ∧ (tbl .gCb).entry 128 = 0 ∧
    (tbl .gCr).entry 128 = 0 ∧ (tbl .bCb).entry 128 = 0) ∧
  (∀ x : Byte, revPixel ⟨0, 0, 0, x⟩ = ⟨0, 135, 0, x⟩ ∧ redValue 0 0 = -180 ∧ greenValue 0 0 0 = 135 ∧
    blueValue 0 0 = -227 ∧ revPixel ⟨255, 255, 255, x⟩ = ⟨255, 120, 255, x⟩ ∧ redValue 255 255 = 433 ∧
    greenValue 255 255 255 = 120 ∧ blueValue 255 255 = 480 ∧ revPixel ⟨255, 0, 0, x⟩ = ⟨75, 255, 28, x⟩ ∧
    greenValue 255 0 0 = 390) ∧
  (∀ x : Byte, revPixel ⟨150, 44, 21, x⟩ = ⟨0, 255, 1, x⟩ ∧ redValue 150 21 = 0 ∧ greenValue 150 44 21 = 255 ∧
    blueValue 150 44 = 1 ∧ revPixel ⟨76, 85, 255, x⟩ = ⟨254, 0, 0, x⟩ ∧ redValue 76 255 = 254 ∧
    greenValue 76 85 255 = 0 ∧ blueValue 76 85 = -1)

/-- 41_forward_converter.md R134 and 43_reverse_converter.md R175: the fourth byte is copied, and no other output depends
on it. -/
def Obligations.FourthBytePassesThrough : Prop :=
  (∀ r g b x x' : Byte, (fwdPixel ⟨r, g, b, x⟩).x = x ∧
    fwdPixel ⟨r, g, b, x'⟩ = { fwdPixel ⟨r, g, b, x⟩ with x := x' }) ∧
  (∀ y cb cr x x' : Byte, (revPixel ⟨y, cb, cr, x⟩).x = x ∧
    revPixel ⟨y, cb, cr, x'⟩ = { revPixel ⟨y, cb, cr, x⟩ with x := x' })

/-- 42_reverse_tables.md R158: the two structural zeros. `R` does not depend on `Cb` and `B` does not depend on `Cr`; each
of the other four dependences is real. -/
def Obligations.StructuralZerosOfTheInverse : Prop :=
  (∀ y cb cb' cr cr' x : Byte, (revPixel ⟨y, cb, cr, x⟩).r = (revPixel ⟨y, cb', cr, x⟩).r ∧
    (revPixel ⟨y, cb, cr, x⟩).b = (revPixel ⟨y, cb, cr', x⟩).b) ∧
  (∃ y cb cr cr' x : Byte, (revPixel ⟨y, cb, cr, x⟩).r ≠ (revPixel ⟨y, cb, cr', x⟩).r) ∧
  (∃ y cb cb' cr x : Byte, (revPixel ⟨y, cb, cr, x⟩).b ≠ (revPixel ⟨y, cb', cr, x⟩).b) ∧
  (∃ y cb cb' cr x : Byte, (revPixel ⟨y, cb, cr, x⟩).g ≠ (revPixel ⟨y, cb', cr, x⟩).g) ∧
  (∃ y cb cr cr' x : Byte, (revPixel ⟨y, cb, cr, x⟩).g ≠ (revPixel ⟨y, cb, cr', x⟩).g)

/-- Inferred in 43_reverse_converter.md R174: the ranges of the sums and of the values before the clamp, each bound reached. -/
def Obligations.PreclampRanges : Prop :=
  (∀ y cb cr : Byte, -180 ≤ redValue y cr ∧ redValue y cr ≤ 433 ∧ -135 ≤ greenValue y cb cr ∧
    greenValue y cb cr ≤ 390 ∧ -227 ≤ blueValue y cb ∧ blueValue y cb ≤ 480 ∧
    -8600 ≤ (tbl .gCb).entry cb + (tbl .gCr).entry cr ∧ (tbl .gCb).entry cb + (tbl .gCr).entry cr ≤ 8669) ∧
  redValue 0 0 = -180 ∧ redValue 255 255 = 433 ∧ greenValue 0 255 255 = -135 ∧ greenValue 255 0 0 = 390 ∧
  blueValue 0 0 = -227 ∧ blueValue 255 255 = 480

/-- 40_forward_tables.md R127, inferred there from R113 and R125: the three sums stay in their ranges, whose ends are
reached, so no output needs a clamp, and every value `0 .. 255` is reached in each channel. -/
def Obligations.ForwardRangeIsExactlyAByte : Prop :=
  (∀ r g b : Byte, 0 ≤ lumaSum r g b ∧ lumaSum r g b ≤ 16320 ∧ -8158 ≤ cbSum r g b ∧ cbSum r g b ≤ 8160 ∧
    -8158 ≤ crSum r g b ∧ crSum r g b ≤ 8160 ∧ 0 ≤ luma r g b ∧ luma r g b ≤ 255 ∧ 0 ≤ chromaB r g b ∧
    chromaB r g b ≤ 255 ∧ 0 ≤ chromaR r g b ∧ chromaR r g b ≤ 255) ∧
  lumaSum 0 0 0 = 0 ∧ lumaSum 255 255 255 = 16320 ∧ cbSum 255 255 0 = -8158 ∧ cbSum 0 0 255 = 8160 ∧
  crSum 0 255 255 = -8158 ∧ crSum 255 0 0 = 8160 ∧
  (∀ v : Byte, ∃ r g b : Byte, luma r g b = v.toNat) ∧ (∀ v : Byte, ∃ r g b : Byte, chromaB r g b = v.toNat) ∧
  (∀ v : Byte, ∃ r g b : Byte, chromaR r g b = v.toNat)

/-- Inferred in 40_forward_tables.md R126, in the reading of 90_conflicts.md C6: each forward output minus the reference of R110
rounded to the nearest integer is -1 or 0, for every input. `(2 * n + 100000) / 200000` is `n / 100000` rounded. -/
def Obligations.ForwardAccuracy : Prop :=
  ∀ r g b x : Byte,
    let p := fwdPixel ⟨r, g, b, x⟩
    let near (n : Int) : Int := (2 * n + 100000) / 200000
    let ey : Int := p.y.toNat - near (29900 * r.toNat + 58700 * g.toNat + 11400 * b.toNat)
    let eb : Int := p.cb.toNat - near (-16874 * r.toNat - 33126 * g.toNat + 50000 * b.toNat + 12800000)
    let er : Int := p.cr.toNat - near (50000 * r.toNat - 41869 * g.toNat - 8131 * b.toNat + 12800000)
    (ey = -1 ∨ ey = 0) ∧ (eb = -1 ∨ eb = 0) ∧ (er = -1 ∨ er = 0)

/-- Inferred in 43_reverse_converter.md R178 (90_conflicts.md C5): the round trip's error lies in `-3 .. 0` for R,
`-2 .. +1` for G, `-3 .. 0` for B, for every input; the bounds -3 (R and B) and +1 (G) are reached. -/
def Obligations.RoundTripWithinThree : Prop :=
  (∀ r g b x : Byte,
    let q := revPixel (fwdPixel ⟨r, g, b, x⟩)
    (-3 ≤ (q.r.toNat : Int) - r.toNat ∧ (q.r.toNat : Int) - r.toNat ≤ 0) ∧
    (-2 ≤ (q.g.toNat : Int) - g.toNat ∧ (q.g.toNat : Int) - g.toNat ≤ 1) ∧
    (-3 ≤ (q.b.toNat : Int) - b.toNat ∧ (q.b.toNat : Int) - b.toNat ≤ 0) ∧ q.x = x) ∧
  (∀ x : Byte, revPixel (fwdPixel ⟨3, 1, 39, x⟩) = ⟨0, 0, 36, x⟩ ∧
    revPixel (fwdPixel ⟨0, 142, 32, x⟩) = ⟨0, 143, 30, x⟩)

/-! ### Encoding -/

/-- 30_encoding.md R85, R86: decoding the packed descriptor of a command gives the command back, for every operand the packed
form has room for (addresses of 32 bits, any 32-bit count). That a negative count decodes to a command, which R90 says spells
none, is the model's choice (DEDUCED, log entry 25): the launch refuses it, in its place of R193's order. -/
def Obligations.DecodeInvertsEncode : Prop :=
  ∀ i : Instr, i.fits Config.packedAW = true → decode (encode i) = .ok i

/-- 30_encoding.md R85: a descriptor that decodes is the packed form of what it decodes to, whose addresses have 32 bits: no bit
is dropped. (A negative count decodes: the model's choice, log entry 25.) -/
def Obligations.EncodeInvertsDecode : Prop :=
  ∀ (cmd : CmdWord) (i : Instr), decode cmd = .ok i → encode i = cmd ∧ i.fits Config.packedAW = true

/-- The decoder refuses a descriptor exactly when a bit of `CMD[31:1]` is set, as 30_encoding.md R90 asks for those bits. R90
names a negative `PIXELS` as the other encoding that spells no command; that the decoder leaves it to the launch, and so
refuses nothing else, is the model's choice (DEDUCED, log entry 25). -/
def Obligations.ReservedBitsSpellNoCommand : Prop :=
  ∀ cmd : CmdWord, decode cmd = .error .reservedBits ↔ ∃ k, 1 ≤ k ∧ k ≤ 31 ∧ cmd.getLsbD k = true

/-- Descriptors written out in 95_test_vectors.md, decoded: P1 (30_encoding.md R92's example), P2, the two of P3, the two of P4;
P5-2, P5-3 and P5-4, with a reserved bit; and P5-5, `PIXELS = -1`, which the spec says spells no command (R90) and is refused
at launch: that the decoder reads a command from it is the model's choice (DEDUCED, log entry 25). -/
def Obligations.WrittenDescriptorsDecode : Prop :=
  decode 0x00000003000020000000100000000000 = .ok (.rgb2ycc 0x2000 0x1000 3) ∧
  decode 0x00000003000022030000110100000001 = .ok (.ycc2rgb 0x2203 0x1101 3) ∧
  decode 0x00000002000010000000100000000000 = .ok (.rgb2ycc 0x1000 0x1000 2) ∧
  decode 0x00000002000010000000100000000001 = .ok (.ycc2rgb 0x1000 0x1000 2) ∧
  decode 0x00000000000000000000000000000000 = .ok (.rgb2ycc 0 0 0) ∧
  decode 0x00000000FFFFFFFF0000000400000001 = .ok (.ycc2rgb 0xFFFFFFFF 4 0) ∧
  decode 0x00000003000020000000100000000002 = .error .reservedBits ∧
  decode 0x00000003000020000000100080000000 = .error .reservedBits ∧
  decode 0x00000003000020000000100000000003 = .error .reservedBits ∧
  decode 0xFFFFFFFF000020000000100000000000 = .ok (.rgb2ycc 0x2000 0x1000 (-1))

/-! ### The step -/

/-- 44_engine_control.md R191: an idle machine runs the command its host presents, and the descriptor is taken from the port: a
packed one that decodes to `i` (where `AW = 32`, 30_encoding.md R85), one given as signals of `AW` bits (any `AW`), and an
opcode-table word placed by `withFetchWord` (log entries 5, 15). -/
def Obligations.StepRunsPresentedCommand : Prop :=
  (∀ (s : State) (cmd : CmdWord) (rest : List HostMove) (i : Instr), s.busy = false → s.aw = Config.packedAW →
    s.host = .command cmd :: rest → decode cmd = .ok i → step s = exec i { s with host := rest }) ∧
  (∀ (s : State) (op : Op) (dst src : Nat) (pixels : BitVec 32) (rest : List HostMove), s.busy = false →
    dst < 2 ^ s.aw → src < 2 ^ s.aw → s.host = .signals op dst src pixels :: rest →
    step s = exec (command op dst src pixels) { s with host := rest }) ∧
  (∀ (s : State) (nbits w : Nat) (i : Instr), decodeTableWord nbits w = some i →
    step (s.withFetchWord nbits w) = exec i { s with busy := false, aw := Config.packedAW })

/-- Inferred in 20_memory.md R66: with `BUSY = 1` the machine runs the command in its latched registers, while the host waits or
lets a turn pass. -/
def Obligations.StepAdvancesCommandInProgress : Prop :=
  ∀ s : State, s.busy = true →
    (s.hostWaits = true → step s = exec s.current s) ∧
    (∀ rest, s.host = .idle :: rest → step s = exec s.current { s with host := rest })

/-- 44_engine_control.md R201: with `BUSY = 1` no command is accepted: whichever command stands to the machine, its step is
that of the command in progress, and a command on the port, packed or as signals, is not accepted (the host goes on holding
it: log entry 12). -/
def Obligations.BusyAcceptsNoCommand : Prop :=
  ∀ s : State, s.busy = true →
    (∀ i j : Instr, exec i s = exec j s) ∧
    (∀ m rest, s.host = m :: rest → ((∃ cmd, m = .command cmd) ∨ ∃ op dst src pixels, m = .signals op dst src pixels) →
      step s = exec s.current s ∧
      ∀ t, step s = .next t → t.host = s.host ∧ t.op = s.op ∧ t.src = s.src ∧ t.dst = s.dst ∧ t.n = s.n)

/-- 70_reset_and_hazards.md R250: an idle engine waits; with nothing asked of it the state stays as it is (log entry 16). -/
def Obligations.IdleMachineWaits : Prop :=
  ∀ s : State, s.busy = false →
    (s.host = [] → step s = .next s) ∧ (∀ rest, s.host = .idle :: rest → step s = .next { s with host := rest })

/-! ### Launch -/

/-- 44_engine_control.md R191: RGB2YCC, presented to an idle machine with every launch precondition met, is launched: the
descriptor is latched, `IDX` is 0, `BUSY` is 1, no byte of memory changes. -/
def Obligations.Rgb2yccLaunches : Prop :=
  ∀ (s : State) (dst src : Nat) (pixels : BitVec 32), s.busy = false → LaunchOk s.aw s.admission dst src pixels →
    ∃ t, exec (.rgb2ycc dst src pixels) s = .next t ∧ t.op = .rgb2ycc ∧ t.src = src ∧ t.dst = dst ∧
      t.n.toNat = pixels.toNat ∧ t.idx = 0 ∧ t.busy = true ∧ t.mem = s.mem ∧ t.aw = s.aw ∧ t.admission = s.admission ∧
      t.host = s.host

/-- 44_engine_control.md R191, for YCC2RGB. -/
def Obligations.Ycc2rgbLaunches : Prop :=
  ∀ (s : State) (dst src : Nat) (pixels : BitVec 32), s.busy = false → LaunchOk s.aw s.admission dst src pixels →
    ∃ t, exec (.ycc2rgb dst src pixels) s = .next t ∧ t.op = .ycc2rgb ∧ t.src = src ∧ t.dst = dst ∧
      t.n.toNat = pixels.toNat ∧ t.idx = 0 ∧ t.busy = true ∧ t.mem = s.mem ∧ t.aw = s.aw ∧ t.admission = s.admission ∧
      t.host = s.host

/-- 44_engine_control.md R192, R193: the first failing precondition, in the order of the table, is the reason of the
refusal, and with none failing the launch goes on. Row 1 stands where the descriptor is taken from the port. -/
def Obligations.LaunchRefusedInOrder : Prop :=
  (∀ (s : State) (cmd : CmdWord) (rest : List HostMove), s.busy = false → s.aw = Config.packedAW →
    s.host = .command cmd :: rest → (∃ k, 1 ≤ k ∧ k ≤ 31 ∧ cmd.getLsbD k = true) → step s = .refused (.launch .reservedBits)) ∧
  (∀ (s : State) (op : Op) (dst src : Nat) (pixels : BitVec 32), s.busy = false → dst < 2 ^ s.aw → src < 2 ^ s.aw →
    (pixels.toInt < 0 → exec (command op dst src pixels) s = .refused (.launch .negativeCount)) ∧
    (0 ≤ pixels.toInt →
      (2 ^ s.aw < src + 4 * pixels.toNat → exec (command op dst src pixels) s = .refused (.launch .srcWrap)) ∧
      (src + 4 * pixels.toNat ≤ 2 ^ s.aw →
        (2 ^ s.aw < dst + 4 * pixels.toNat → exec (command op dst src pixels) s = .refused (.launch .dstWrap)) ∧
        (dst + 4 * pixels.toNat ≤ 2 ^ s.aw →
          (¬ RegionsLegal dst src pixels.toNat →
            exec (command op dst src pixels) s = .refused (.launch .partialOverlap)) ∧
          (RegionsLegal dst src pixels.toNat →
            (¬ FootprintAdmitted s.admission dst src pixels.toNat →
              exec (command op dst src pixels) s = .refused (.launch .notAdmitted)) ∧
            (FootprintAdmitted s.admission dst src pixels.toNat →
              ∃ t, exec (command op dst src pixels) s = .next t ∧ t.busy = true))))))

/-! ### The engine's steps -/

/-- 44_engine_control.md R194, R195, R196: RGB2YCC's pixel step. The four bytes at `SRC + 4*IDX` are read and `FwdPixel` of
them is written at `DST + 4*IDX`; `IDX` goes up by 1; `OP, SRC, DST, N, BUSY` and every other byte are unchanged. -/
def Obligations.Rgb2yccPixelStep : Prop :=
  ∀ (s : State) (dst src : Nat) (pixels : BitVec 32), s.busy = true → s.op = .rgb2ycc → s.idx.toNat < s.n.toNat →
    s.src + 4 * s.idx.toNat + 4 ≤ 2 ^ s.aw → s.dst + 4 * s.idx.toNat + 4 ≤ 2 ^ s.aw → s.mem.wf = true →
    ∃ t, exec (.rgb2ycc dst src pixels) s = .next t ∧
      t.mem.readPixel (s.dst + 4 * s.idx.toNat) =
        (fwdPixel (s.mem.readPixel (s.src + 4 * s.idx.toNat)).asRgbx).bytes ∧
      (∀ a, ¬ (s.dst + 4 * s.idx.toNat ≤ a ∧ a < s.dst + 4 * s.idx.toNat + 4) →
        t.mem.read a = s.mem.read a) ∧
      t.idx.toNat = s.idx.toNat + 1 ∧ t.op = s.op ∧ t.src = s.src ∧ t.dst = s.dst ∧ t.n = s.n ∧ t.busy = s.busy

/-- 44_engine_control.md R194, R195, R196: YCC2RGB's pixel step, with `RevPixel`. -/
def Obligations.Ycc2rgbPixelStep : Prop :=
  ∀ (s : State) (dst src : Nat) (pixels : BitVec 32), s.busy = true → s.op = .ycc2rgb → s.idx.toNat < s.n.toNat →
    s.src + 4 * s.idx.toNat + 4 ≤ 2 ^ s.aw → s.dst + 4 * s.idx.toNat + 4 ≤ 2 ^ s.aw → s.mem.wf = true →
    ∃ t, exec (.ycc2rgb dst src pixels) s = .next t ∧
      t.mem.readPixel (s.dst + 4 * s.idx.toNat) =
        (revPixel (s.mem.readPixel (s.src + 4 * s.idx.toNat)).asYccx).bytes ∧
      (∀ a, ¬ (s.dst + 4 * s.idx.toNat ≤ a ∧ a < s.dst + 4 * s.idx.toNat + 4) →
        t.mem.read a = s.mem.read a) ∧
      t.idx.toNat = s.idx.toNat + 1 ∧ t.op = s.op ∧ t.src = s.src ∧ t.dst = s.dst ∧ t.n = s.n ∧ t.busy = s.busy

/-- 44_engine_control.md R197: the completion step of both commands clears `BUSY` and does nothing else. -/
def Obligations.CompletionClearsBusyOnly : Prop :=
  ∀ (s : State) (dst src : Nat) (pixels : BitVec 32), s.busy = true → s.idx.toNat = s.n.toNat →
    exec (.rgb2ycc dst src pixels) s = .next { s with busy := false } ∧
    exec (.ycc2rgb dst src pixels) s = .next { s with busy := false }

/-- 44_engine_control.md R198: a count of zero, with any `SRC` and `DST` and whatever is admitted: launched, completed by
the next step, memory untouched. -/
def Obligations.ZeroCountIsANoOp : Prop :=
  ∀ (s : State) (op : Op) (dst src : Nat), s.busy = false → s.hostWaits = true → dst < 2 ^ s.aw → src < 2 ^ s.aw →
    ∃ t, exec (command op dst src 0) s = .next t ∧ t.busy = true ∧ t.n = 0 ∧ t.idx = 0 ∧ t.mem = s.mem ∧
      step t = .next { t with busy := false } ∧ { t with busy := false }.mem = s.mem

/-- What RGB2YCC and YCC2RGB leave unchanged when `exec` gives a next state. A launch writes the six registers and no
byte; with `BUSY = 1` a pixel step writes `IDX` and the four bytes at `DST + 4*IDX`, a completion writes `BUSY`. -/
def Obligations.CommandFrame : Prop :=
  ∀ (i : Instr) (s t : State), exec i s = .next t →
    t.aw = s.aw ∧ t.admission = s.admission ∧ t.host = s.host ∧ t.draws = s.draws ∧
    (s.busy = false → ∀ a, t.mem.read a = s.mem.read a) ∧
    (s.busy = true → t.op = s.op ∧ t.src = s.src ∧ t.dst = s.dst ∧ t.n = s.n ∧ t.before = s.before) ∧
    (s.busy = true → s.idx.toNat < s.n.toNat → t.busy = true ∧
      ∀ a, ¬ (s.destAddr ≤ a ∧ a < s.destAddr + 4) → t.mem.read a = s.mem.read a) ∧
    (s.busy = true → s.idx.toNat = s.n.toNat → t.idx = s.idx ∧ ∀ a, t.mem.read a = s.mem.read a)

/-! ### Whole commands -/

/-- Inferred in 44_engine_control.md R202, for RGB2YCC: from an idle state with memory `M`, the launch and then engine steps until
`BUSY = 0`, `N + 1` of them, end with memory `Run(d, M)`: every destination pixel is `FwdPixel` of the source pixel of
the same index in `M`, every other byte is that of `M`. In place (`DST = SRC`) too. -/
def Obligations.Rgb2yccConvertsTheRun : Prop :=
  ∀ (s : State) (dst src : Nat) (pixels : BitVec 32), s.busy = false → s.hostWaits = true → s.mem.wf = true →
    LaunchOk s.aw s.admission dst src pixels →
    ∃ t u, exec (.rgb2ycc dst src pixels) s = .next t ∧
      (∀ k ≤ pixels.toNat, ∃ v, steps k t = .next v ∧ v.busy = true) ∧
      steps (pixels.toNat + 1) t = .next u ∧ u.busy = false ∧
      (∀ i < pixels.toNat, u.mem.readPixel (dst + 4 * i) =
        (fwdPixel (s.mem.readPixel (src + 4 * i)).asRgbx).bytes) ∧
      (∀ a, ¬ (dst ≤ a ∧ a < dst + 4 * pixels.toNat) → u.mem.read a = s.mem.read a)

/-- Inferred in 44_engine_control.md R202, for YCC2RGB, with `RevPixel`. -/
def Obligations.Ycc2rgbConvertsTheRun : Prop :=
  ∀ (s : State) (dst src : Nat) (pixels : BitVec 32), s.busy = false → s.hostWaits = true → s.mem.wf = true →
    LaunchOk s.aw s.admission dst src pixels →
    ∃ t u, exec (.ycc2rgb dst src pixels) s = .next t ∧
      (∀ k ≤ pixels.toNat, ∃ v, steps k t = .next v ∧ v.busy = true) ∧
      steps (pixels.toNat + 1) t = .next u ∧ u.busy = false ∧
      (∀ i < pixels.toNat, u.mem.readPixel (dst + 4 * i) =
        (revPixel (s.mem.readPixel (src + 4 * i)).asYccx).bytes) ∧
      (∀ a, ¬ (dst ≤ a ∧ a < dst + 4 * pixels.toNat) → u.mem.read a = s.mem.read a)

/-- Inferred in 41_forward_converter.md R136 and 43_reverse_converter.md R177: batch consistency. A run of `p + q` pixels in one command
leaves the same memory as its first `p` pixels in one command and the other `q` in the next. (The remainder by `2^AW` matters
only where `q = 0` and the run ends at the top of memory.) -/
def Obligations.BatchConsistency : Prop :=
  ∀ (s : State) (op : Op) (dst src : Nat) (p q : Nat), p + q < 2 ^ 31 → s.busy = false → s.hostWaits = true →
    s.mem.wf = true → LaunchOk s.aw s.admission dst src (BitVec.ofNat 32 (p + q)) →
    ∃ t u v, runCommand op dst src (BitVec.ofNat 32 (p + q)) s = .next t ∧
      runCommand op dst src (BitVec.ofNat 32 p) s = .next u ∧
      runCommand op ((dst + 4 * p) % 2 ^ s.aw) ((src + 4 * p) % 2 ^ s.aw) (BitVec.ofNat 32 q) u = .next v ∧
      t.mem = v.mem

/-- Inferred in 20_memory.md R61: a conversion in place gives each pixel the bytes that a conversion into a disjoint region gives it. -/
def Obligations.InPlaceEqualsOutOfPlace : Prop :=
  ∀ (s : State) (op : Op) (dst src : Nat) (pixels : BitVec 32), s.busy = false → s.hostWaits = true → s.mem.wf = true →
    LaunchOk s.aw s.admission dst src pixels →
    ∃ t u, runCommand op dst src pixels s = .next t ∧ runCommand op src src pixels s = .next u ∧
      ∀ k < 4 * pixels.toNat, u.mem.read (src + k) = t.mem.read (dst + k)

/-- Inferred in 41_forward_converter.md R136 and 43_reverse_converter.md R177: pixel `i` of the destination depends on pixel `i` of the
source and on nothing else: two runs from memories that agree on that pixel write the same four bytes. -/
def Obligations.PixelsAreIndependent : Prop :=
  ∀ (s s' : State) (op : Op) (dst src : Nat) (pixels : BitVec 32), s.busy = false → s'.busy = false →
    s.hostWaits = true → s'.hostWaits = true → s.mem.wf = true → s'.mem.wf = true →
    LaunchOk s.aw s.admission dst src pixels → LaunchOk s'.aw s'.admission dst src pixels →
    ∃ t t', runCommand op dst src pixels s = .next t ∧ runCommand op dst src pixels s' = .next t' ∧
      ∀ i < pixels.toNat, s.mem.readPixel (src + 4 * i) = s'.mem.readPixel (src + 4 * i) →
        t.mem.readPixel (dst + 4 * i) = t'.mem.readPixel (dst + 4 * i)

/-! ### Invariants and the whole machine -/

/-- The invariants hold after reset, where `BUSY = 0` (10_state.md R30; inferred in R31). What the other registers and
memory hold after reset is the model's choice (log entries 3, 4); no clause says it. -/
def Obligations.ResetMeetsInvariants : Prop :=
  State.reset.busy = false ∧ State.reset.Legal ∧ State.reset.Canonical ∧ State.reset.Progress

/-- Inferred in 10_state.md R31 (a), (b): every step, of the engine or the host, keeps `IDX <= N` and the launch preconditions of
the latched descriptor; and `SRC` and `DST` stay addresses of `AW` bits (R24). -/
def Obligations.StepKeepsLatchedDescriptorLegal : Prop :=
  ∀ s t : State, s.Legal → step s = .next t → t.Legal

/-- Every step keeps memory, and the model's copy of it from the launch (log entry 7), in canonical form (log entry 4), with no
address listed outside `[0, 2^AW)` (20_memory.md R50). -/
def Obligations.StepKeepsMemoryCanonical : Prop :=
  ∀ s t : State, s.Legal → s.Canonical → step s = .next t → t.Canonical

/-- Inferred in 60_exceptions.md R225: every step keeps `IDX` an exact description of progress: destination pixels below `IDX` hold
what `Run` gives, the others and the rest of the source hold what they held at launch. -/
def Obligations.StepKeepsProgressExact : Prop :=
  ∀ s t : State, s.Legal → s.Canonical → s.Progress → step s = .next t → t.Progress

/-- 60_exceptions.md R221 ("There is no refusal, fault or stuck state that arises after a launch") and, inferred there, R234: from
a legal state no step faults, and with `BUSY = 1` every step, whatever move the host has in mind, gives a next state. -/
def Obligations.LaunchedCommandNeverStops : Prop :=
  ∀ s : State, s.Legal → (∀ f, step s ≠ .fault f) ∧ (s.busy = true → ∃ t, step s = .next t)

/-- 10_state.md R24: no rule reads `OP, SRC, DST, N` or `IDX` while `BUSY = 0`. Two states that differ only in what an idle
engine's registers hold step alike: so the reset values the model chose (log entry 3) are not observable. -/
def Obligations.IdleRegistersAreDead : Prop :=
  ∀ s t : State, s.Agree t →
    (∀ s', step s = .next s' → ∃ t', step t = .next t' ∧ s'.Agree t') ∧
    (∀ r, step s = .refused r → step t = .refused r) ∧
    (∀ f, step s = .fault f → step t = .fault f)

/-- 10_state.md R32 and 93_implementation_defined.md U23, in the model's form of the two open parameters (log entries 1, 2, 21):
no step changes the width of an address, or which addresses are admitted. -/
def Obligations.ParametersNeverChange : Prop :=
  ∀ s t : State, step s = .next t → t.aw = s.aw ∧ t.admission = s.admission

/-- 20_memory.md R55: in any step but one in which the host writes a byte, no byte outside the destination region of the command
in progress changes, and with `BUSY = 0` no byte at all. -/
def Obligations.EngineWritesOnlyDestination : Prop :=
  ∀ s t : State, step s = .next t →
    (∀ a b rest, s.host = .write a b :: rest → s.grants (.write a b) = false) →
    (s.busy = false → t.mem = s.mem) ∧
    (s.busy = true → s.idx.toNat ≤ s.n.toNat → ∀ a, s.inDest a = false → t.mem.read a = s.mem.read a)

/-- 20_memory.md R68, R56: the host's accesses. With `BUSY = 0` any write of a byte of memory takes effect, and a read changes
nothing; with `BUSY = 1` so does a write outside `S` and `D`, and a read outside `D`. A write in `S` or `D`, or a read in `D`, is
no move the host has while `BUSY = 1`: it waits, and the step is the engine's (log entry 6). -/
def Obligations.HostAccessesMemory : Prop :=
  ∀ (s : State) (a : Nat) (rest : List HostMove), a < 2 ^ s.aw →
    (∀ b, s.host = .write a b :: rest → s.mem.wf = true →
      (s.busy = true ∧ (s.inSource a = true ∨ s.inDest a = true) → step s = exec s.current s) ∧
      (¬ (s.busy = true ∧ (s.inSource a = true ∨ s.inDest a = true)) →
        ∃ t, step s = .next t ∧ t.mem.read a = b ∧ (∀ c, c ≠ a → t.mem.read c = s.mem.read c) ∧
          t = { s with mem := t.mem, host := rest })) ∧
    (s.host = .read a :: rest →
      (s.busy = true ∧ s.inDest a = true → step s = exec s.current s) ∧
      (¬ (s.busy = true ∧ s.inDest a = true) → step s = .next { s with host := rest }))

/-- 70_reset_and_hazards.md R250: reset with `BUSY = 0`: `BUSY` is 0 and memory is not touched. -/
def Obligations.ResetWhileIdle : Prop :=
  ∀ (s : State) (rest : List HostMove), s.busy = false → s.host = .reset :: rest →
    ∃ t, step s = .next t ∧ t.busy = false ∧ t.mem = s.mem ∧ t.aw = s.aw ∧ t.admission = s.admission ∧ t.host = rest

/-- 70_reset_and_hazards.md R252: reset with `BUSY = 1`: the command is abandoned; every byte outside `D` is unchanged, and
each byte of `D` holds its value from before the launch or the value the completed command would have written. It holds
whichever bytes the free value `Config.resetDraw` picks (log entry 7). -/
def Obligations.ResetDuringCommand : Prop :=
  ∀ (s : State) (rest : List HostMove), s.Legal → s.Canonical → s.busy = true → s.host = .reset :: rest →
    ∃ t, step s = .next t ∧ t.busy = false ∧ t.host = rest ∧ t.aw = s.aw ∧ t.admission = s.admission ∧
      (∀ a, s.inDest a = false → t.mem.read a = s.mem.read a) ∧
      (∀ a, s.inDest a = true → t.mem.read a = s.before.read a ∨
        t.mem.read a = runByte s.op s.src s.dst s.n.toNat s.before a)

/-- The canonical form is one: two memories in it that read alike at every address are equal data (the form is the model's, log entry 4). -/
def Obligations.EqualMemoriesAreEqualData : Prop :=
  ∀ m m' : Memory, m.wf = true → m'.wf = true → (∀ a, m.read a = m'.read a) → m = m'

/-- 60_exceptions.md R221: a refusal has one of the spec's six reasons, is the answer to a command presented to an idle machine,
and comes from nothing else the host does. (What `Refusal` holds beside `RefusalReason`, the spec's
enumeration, is the task's: log entry 18.) -/
def Obligations.OnlyALaunchIsRefused : Prop :=
  ∀ (s : State) (r : Refusal), step s = .refused r →
    s.busy = false ∧
    (∃ m rest, s.host = m :: rest ∧ ((∃ cmd, m = .command cmd) ∨ ∃ op dst src pixels, m = .signals op dst src pixels)) ∧
    ∃ reason ∈ [RefusalReason.reservedBits, .negativeCount, .srcWrap, .dstWrap, .partialOverlap, .notAdmitted],
      r = .launch reason
end

