-- ==== Sys2Proof/Laws/Launch.lean ====
section
/-!
SUPPORT. The checks a launch makes, in the spec's own terms of sets of addresses, and what a launch can answer.
-/

namespace Sys2Proof.Machine

theorem inRegion_iff {base count a : Nat} : inRegion base count a = true ↔ base ≤ a ∧ a < base + 4 * count := by
  simp [inRegion]

theorem inRegion_false_iff {base count a : Nat} :
    inRegion base count a = false ↔ ¬ (base ≤ a ∧ a < base + 4 * count) := by
  rw [← inRegion_iff, Bool.not_eq_true]

/-- Covering a range of addresses is admitting each of them. -/
theorem admitsRange_iff (admission : List Region) (lo hi : Nat) :
    admitsRange admission lo hi = true ↔ ∀ a, lo ≤ a → a < hi → admits admission a = true := by
  induction admission generalizing lo hi with
  | nil =>
    simp only [admitsRange, admits, List.any_nil, decide_eq_true_eq]
    exact ⟨fun h a h1 h2 => by omega, fun h => by
      by_contra hc; exact absurd (h lo (Nat.le_refl _) (by omega)) (by simp)⟩
  | cons r rest ih =>
    have step : ∀ a, admits (r :: rest) a = true ↔ (r.base ≤ a ∧ a < r.limit) ∨ admits rest a = true := by
      intro a; simp [admits]
    simp only [admitsRange, Bool.or_eq_true, Bool.and_eq_true, decide_eq_true_eq, ih, step]
    constructor
    · rintro (h | ⟨h1, h2⟩) a ha hb
      · omega
      · by_cases hr : r.base ≤ a ∧ a < r.limit
        · exact Or.inl hr
        · right
          rcases Nat.lt_or_ge a r.base with hc | hc
          · exact h1 a ha (by omega)
          · exact h2 a (by omega) hb
    · intro h
      right
      constructor
      · intro a ha hb; rcases h a ha (by omega) with hr | hr
        · omega
        · exact hr
      · intro a ha hb; rcases h a (by omega) hb with hr | hr
        · omega
        · exact hr

/-- The overlap check is precondition 5 of R192. -/
theorem overlapLegal_iff (src dst p : Nat) : overlapLegal src dst p = true ↔ RegionsLegal dst src p := by
  simp only [overlapLegal, RegionsLegal, inRegion_iff, Bool.or_eq_true, decide_eq_true_eq]
  constructor
  · rintro (((h | h) | h) | h)
    · exact Or.inl fun a => by omega
    · exact Or.inr h.symm
    · exact Or.inl fun a => by omega
    · exact Or.inl fun a => by omega
  · rintro (h | h)
    · by_contra hc
      simp only [not_or] at hc
      have := h (max src dst)
      omega
    · exact Or.inl (Or.inl (Or.inr h.symm))

/-- The footprint check is precondition 6 of R192. -/
theorem footprint_iff (admission : List Region) (src dst p : Nat) :
    (admitsRange admission src (src + 4 * p) && admitsRange admission dst (dst + 4 * p)) = true ↔
      FootprintAdmitted admission dst src p := by
  simp only [Bool.and_eq_true, admitsRange_iff, FootprintAdmitted, inRegion_iff]
  exact ⟨fun ⟨h1, h2⟩ a => by rintro (⟨a1, a2⟩ | ⟨a1, a2⟩); exacts [h1 a a1 a2, h2 a a1 a2],
    fun h => ⟨fun a a1 a2 => h a (Or.inl ⟨a1, a2⟩), fun a a1 a2 => h a (Or.inr ⟨a1, a2⟩)⟩⟩

/-- The wrap checks are preconditions 3 and 4 of R192, for an address of `aw` bits. -/
theorem wraps_iff (aw addr p : Nat) : wraps aw addr p = true ↔ ¬ (addr < 2 ^ aw ∧ addr + 4 * p ≤ 2 ^ aw) := by
  simp only [wraps, Bool.or_eq_true, decide_eq_true_eq]; omega

/-- No precondition fails exactly when all hold. -/
theorem launchRefusal_eq_none (aw : Nat) (admission : List Region) (src dst : Nat) (pixels : BitVec 32) :
    launchRefusal aw admission src dst pixels = none ↔ LaunchOk aw admission dst src pixels := by
  have hs := wraps_iff aw src pixels.toNat
  have hd := wraps_iff aw dst pixels.toNat
  have ho := overlapLegal_iff src dst pixels.toNat
  have hf := footprint_iff admission src dst pixels.toNat
  unfold launchRefusal
  constructor
  · intro h
    split at h <;> try cases h
    split at h <;> try cases h
    split at h <;> try cases h
    split at h <;> try cases h
    split at h <;> try cases h
    next h1 h2 h3 h4 h5 =>
    rw [hs, not_not] at h2
    rw [hd, not_not] at h3
    exact ⟨h2.1, h3.1, by omega, h2.2, h3.2, ho.mp (by simpa using h4), hf.mp (by
      revert h5; cases (admitsRange admission src (src + 4 * pixels.toNat)
        && admitsRange admission dst (dst + 4 * pixels.toNat)) <;> simp)⟩
  · intro h
    rw [if_neg (by have := h.count; omega), if_neg (by rw [hs, not_not]; exact ⟨h.srcAddr, h.srcFits⟩),
      if_neg (by rw [hd, not_not]; exact ⟨h.dstAddr, h.dstFits⟩), if_neg (by simp [ho.mpr h.overlap]),
      if_neg (by rw [hf.mpr h.admitted]; decide)]

/-- The reasons a launch can give: the last five of 60_exceptions.md R221. -/
theorem launchRefusal_some {aw : Nat} {admission : List Region} {src dst : Nat} {pixels : BitVec 32}
    {r : RefusalReason}
    (h : launchRefusal aw admission src dst pixels = some r) :
    r = .negativeCount ∨ r = .srcWrap ∨ r = .dstWrap ∨ r = .partialOverlap ∨ r = .notAdmitted := by
  unfold launchRefusal at h
  repeat' split at h
  all_goals cases h
  all_goals simp

/-- A launch whose preconditions hold latches the descriptor. -/
theorem launch_next {op : Op} {src dst : Nat} {pixels : BitVec 32} {s : State}
    (h : LaunchOk s.aw s.admission dst src pixels) : launch op src dst pixels s = .next (s.latch op src dst pixels) := by
  simp [launch, (launchRefusal_eq_none s.aw s.admission src dst pixels).mpr h]

/-- Everything a launch can answer. -/
theorem launch_cases (op : Op) (src dst : Nat) (pixels : BitVec 32) (s : State) :
    (LaunchOk s.aw s.admission dst src pixels ∧ launch op src dst pixels s = .next (s.latch op src dst pixels)) ∨
    ∃ r, launchRefusal s.aw s.admission src dst pixels = some r ∧ launch op src dst pixels s = .refused (.launch r) := by
  cases h : launchRefusal s.aw s.admission src dst pixels with
  | none =>
    have := (launchRefusal_eq_none s.aw s.admission src dst pixels).mp h
    exact Or.inl ⟨this, launch_next this⟩
  | some r => exact Or.inr ⟨r, rfl, by simp [launch, h]⟩

/-- A launched count keeps its value in the 31-bit register `N`. -/
theorem latched_count {pixels : BitVec 32} (h : 0 ≤ pixels.toInt) : (pixels.setWidth 31).toNat = pixels.toNat := by
  have := BitVec.toInt_eq_toNat_cond pixels
  have hl := pixels.isLt
  rw [BitVec.toNat_setWidth]
  apply Nat.mod_eq_of_lt
  split at this <;> omega

end Sys2Proof.Machine
end

