-- ==== Sys2Proof/Laws/PerInstr.lean ====
section
/-!
SUPPORT. Statements for all instructions, one lemma per constructor.
-/

namespace Sys2Proof

/-- The width check says that both addresses have `aw` bits. -/
@[simp] theorem Instr.fits_iff (aw : Nat) (i : Instr) : i.fits aw = true ↔ i.dst < 2 ^ aw ∧ i.src < 2 ^ aw := by
  simp [Instr.fits]

@[simp] theorem command_dst (op : Op) (dst src : Nat) (pixels : BitVec 32) : (command op dst src pixels).dst = dst := by
  cases op <;> rfl

@[simp] theorem command_src (op : Op) (dst src : Nat) (pixels : BitVec 32) : (command op dst src pixels).src = src := by
  cases op <;> rfl

@[simp] theorem command_pixels (op : Op) (dst src : Nat) (pixels : BitVec 32) :
    (command op dst src pixels).pixels = pixels := by
  cases op <;> rfl

/-- `OP` of a command (30_encoding.md R86). -/
def Laws.OpcodeBits.opOf : Instr → BitVec 1
  | .rgb2ycc _ _ _ => 0#1
  | .ycc2rgb _ _ _ => 1#1

/-- The opcode word `W0` of a command's packed descriptor: `CMD[31:1] = 0` and `CMD[0] = OP` (R85, R86, R90). -/
def Laws.OpcodeBits.Statement (i : Instr) : Prop :=
  cmdReserved (encode i) = 0#31 ∧ cmdOp (encode i) = Laws.OpcodeBits.opOf i

/-- A bit of the opcode word lies below the operands. -/
theorem packCmd_low (op : BitVec 1) (dst src pixels : BitVec 32) (k : Nat) (hk : k < 32) :
    (packCmd op dst src pixels).getLsbD k = if k = 0 then op.getLsbD 0 else false := by
  unfold packCmd
  rw [BitVec.getLsbD_append, BitVec.getLsbD_append]
  by_cases h : k = 0
  · simp [h]
  · simp [h, show ¬ k < 1 by omega, show k - 1 < 31 by omega]

theorem cmdReserved_packCmd (op : BitVec 1) (dst src pixels : BitVec 32) :
    cmdReserved (packCmd op dst src pixels) = 0#31 := by
  ext k hk
  have := packCmd_low op dst src pixels (1 + k) (by omega)
  simp [cmdReserved, this]

theorem cmdOp_packCmd (op : BitVec 1) (dst src pixels : BitVec 32) :
    cmdOp (packCmd op dst src pixels) = op := by
  ext k hk
  obtain rfl : k = 0 := by omega
  simpa [cmdOp] using packCmd_low op dst src pixels 0 (by omega)

theorem Laws.OpcodeBits.rgb2ycc (dst src : Nat) (pixels : BitVec 32) :
    Laws.OpcodeBits.Statement (.rgb2ycc dst src pixels) :=
  ⟨cmdReserved_packCmd _ _ _ _, cmdOp_packCmd _ _ _ _⟩

theorem Laws.OpcodeBits.ycc2rgb (dst src : Nat) (pixels : BitVec 32) :
    Laws.OpcodeBits.Statement (.ycc2rgb dst src pixels) :=
  ⟨cmdReserved_packCmd _ _ _ _, cmdOp_packCmd _ _ _ _⟩

end Sys2Proof
end

