-- ==== Sys2Proof/Laws/State.lean ====
section
/-!
SUPPORT. What each update of the state does to each field, so that no proof unfolds a record update.
-/

namespace Sys2Proof.Machine

@[simp] theorem State.latch_busy (s : State) (o : Op) (sr ds : Nat) (p : BitVec 32) : (s.latch o sr ds p).busy = true := rfl
@[simp] theorem State.latch_op (s : State) (o : Op) (sr ds : Nat) (p : BitVec 32) : (s.latch o sr ds p).op = o := rfl
@[simp] theorem State.latch_src (s : State) (o : Op) (sr ds : Nat) (p : BitVec 32) : (s.latch o sr ds p).src = sr := rfl
@[simp] theorem State.latch_dst (s : State) (o : Op) (sr ds : Nat) (p : BitVec 32) : (s.latch o sr ds p).dst = ds := rfl
@[simp] theorem State.latch_n (s : State) (o : Op) (sr ds : Nat) (p : BitVec 32) : (s.latch o sr ds p).n = p.setWidth 31 := rfl
@[simp] theorem State.latch_idx (s : State) (o : Op) (sr ds : Nat) (p : BitVec 32) : (s.latch o sr ds p).idx = 0 := rfl
@[simp] theorem State.latch_mem (s : State) (o : Op) (sr ds : Nat) (p : BitVec 32) : (s.latch o sr ds p).mem = s.mem := rfl
@[simp] theorem State.latch_aw (s : State) (o : Op) (sr ds : Nat) (p : BitVec 32) : (s.latch o sr ds p).aw = s.aw := rfl
@[simp] theorem State.latch_admission (s : State) (o : Op) (sr ds : Nat) (p : BitVec 32) : (s.latch o sr ds p).admission = s.admission := rfl
@[simp] theorem State.latch_host (s : State) (o : Op) (sr ds : Nat) (p : BitVec 32) : (s.latch o sr ds p).host = s.host := rfl
@[simp] theorem State.latch_before (s : State) (o : Op) (sr ds : Nat) (p : BitVec 32) : (s.latch o sr ds p).before = s.mem := rfl
@[simp] theorem State.latch_draws (s : State) (o : Op) (sr ds : Nat) (p : BitVec 32) : (s.latch o sr ds p).draws = s.draws := rfl

@[simp] theorem State.pixelDone_busy (s : State) (m : Memory) : (s.pixelDone m).busy = s.busy := rfl
@[simp] theorem State.pixelDone_op (s : State) (m : Memory) : (s.pixelDone m).op = s.op := rfl
@[simp] theorem State.pixelDone_src (s : State) (m : Memory) : (s.pixelDone m).src = s.src := rfl
@[simp] theorem State.pixelDone_dst (s : State) (m : Memory) : (s.pixelDone m).dst = s.dst := rfl
@[simp] theorem State.pixelDone_n (s : State) (m : Memory) : (s.pixelDone m).n = s.n := rfl
@[simp] theorem State.pixelDone_idx (s : State) (m : Memory) : (s.pixelDone m).idx = s.idx + 1 := rfl
@[simp] theorem State.pixelDone_mem (s : State) (m : Memory) : (s.pixelDone m).mem = m := rfl
@[simp] theorem State.pixelDone_aw (s : State) (m : Memory) : (s.pixelDone m).aw = s.aw := rfl
@[simp] theorem State.pixelDone_admission (s : State) (m : Memory) : (s.pixelDone m).admission = s.admission := rfl
@[simp] theorem State.pixelDone_host (s : State) (m : Memory) : (s.pixelDone m).host = s.host := rfl
@[simp] theorem State.pixelDone_before (s : State) (m : Memory) : (s.pixelDone m).before = s.before := rfl
@[simp] theorem State.pixelDone_draws (s : State) (m : Memory) : (s.pixelDone m).draws = s.draws := rfl

@[simp] theorem State.complete_busy (s : State) : s.complete.busy = false := rfl
@[simp] theorem State.complete_op (s : State) : s.complete.op = s.op := rfl
@[simp] theorem State.complete_src (s : State) : s.complete.src = s.src := rfl
@[simp] theorem State.complete_dst (s : State) : s.complete.dst = s.dst := rfl
@[simp] theorem State.complete_n (s : State) : s.complete.n = s.n := rfl
@[simp] theorem State.complete_idx (s : State) : s.complete.idx = s.idx := rfl
@[simp] theorem State.complete_mem (s : State) : s.complete.mem = s.mem := rfl
@[simp] theorem State.complete_aw (s : State) : s.complete.aw = s.aw := rfl
@[simp] theorem State.complete_admission (s : State) : s.complete.admission = s.admission := rfl
@[simp] theorem State.complete_host (s : State) : s.complete.host = s.host := rfl
@[simp] theorem State.complete_before (s : State) : s.complete.before = s.before := rfl
@[simp] theorem State.complete_draws (s : State) : s.complete.draws = s.draws := rfl

@[simp] theorem State.setMem_busy (s : State) (m : Memory) : (s.setMem m).busy = s.busy := rfl
@[simp] theorem State.setMem_op (s : State) (m : Memory) : (s.setMem m).op = s.op := rfl
@[simp] theorem State.setMem_src (s : State) (m : Memory) : (s.setMem m).src = s.src := rfl
@[simp] theorem State.setMem_dst (s : State) (m : Memory) : (s.setMem m).dst = s.dst := rfl
@[simp] theorem State.setMem_n (s : State) (m : Memory) : (s.setMem m).n = s.n := rfl
@[simp] theorem State.setMem_idx (s : State) (m : Memory) : (s.setMem m).idx = s.idx := rfl
@[simp] theorem State.setMem_mem (s : State) (m : Memory) : (s.setMem m).mem = m := rfl
@[simp] theorem State.setMem_aw (s : State) (m : Memory) : (s.setMem m).aw = s.aw := rfl
@[simp] theorem State.setMem_admission (s : State) (m : Memory) : (s.setMem m).admission = s.admission := rfl
@[simp] theorem State.setMem_host (s : State) (m : Memory) : (s.setMem m).host = s.host := rfl
@[simp] theorem State.setMem_before (s : State) (m : Memory) : (s.setMem m).before = s.before := rfl
@[simp] theorem State.setMem_draws (s : State) (m : Memory) : (s.setMem m).draws = s.draws := rfl

@[simp] theorem State.setHost_busy (s : State) (h : List HostMove) : (s.setHost h).busy = s.busy := rfl
@[simp] theorem State.setHost_op (s : State) (h : List HostMove) : (s.setHost h).op = s.op := rfl
@[simp] theorem State.setHost_src (s : State) (h : List HostMove) : (s.setHost h).src = s.src := rfl
@[simp] theorem State.setHost_dst (s : State) (h : List HostMove) : (s.setHost h).dst = s.dst := rfl
@[simp] theorem State.setHost_n (s : State) (h : List HostMove) : (s.setHost h).n = s.n := rfl
@[simp] theorem State.setHost_idx (s : State) (h : List HostMove) : (s.setHost h).idx = s.idx := rfl
@[simp] theorem State.setHost_mem (s : State) (h : List HostMove) : (s.setHost h).mem = s.mem := rfl
@[simp] theorem State.setHost_aw (s : State) (h : List HostMove) : (s.setHost h).aw = s.aw := rfl
@[simp] theorem State.setHost_admission (s : State) (h : List HostMove) : (s.setHost h).admission = s.admission := rfl
@[simp] theorem State.setHost_host (s : State) (h : List HostMove) : (s.setHost h).host = h := rfl
@[simp] theorem State.setHost_before (s : State) (h : List HostMove) : (s.setHost h).before = s.before := rfl
@[simp] theorem State.setHost_draws (s : State) (h : List HostMove) : (s.setHost h).draws = s.draws := rfl

@[simp] theorem State.resetTo_busy (s : State) (m : Memory) (k : Nat) : (s.resetTo m k).busy = false := rfl
@[simp] theorem State.resetTo_op (s : State) (m : Memory) (k : Nat) : (s.resetTo m k).op = .rgb2ycc := rfl
@[simp] theorem State.resetTo_src (s : State) (m : Memory) (k : Nat) : (s.resetTo m k).src = 0 := rfl
@[simp] theorem State.resetTo_dst (s : State) (m : Memory) (k : Nat) : (s.resetTo m k).dst = 0 := rfl
@[simp] theorem State.resetTo_n (s : State) (m : Memory) (k : Nat) : (s.resetTo m k).n = 0 := rfl
@[simp] theorem State.resetTo_idx (s : State) (m : Memory) (k : Nat) : (s.resetTo m k).idx = 0 := rfl
@[simp] theorem State.resetTo_mem (s : State) (m : Memory) (k : Nat) : (s.resetTo m k).mem = m := rfl
@[simp] theorem State.resetTo_aw (s : State) (m : Memory) (k : Nat) : (s.resetTo m k).aw = s.aw := rfl
@[simp] theorem State.resetTo_admission (s : State) (m : Memory) (k : Nat) : (s.resetTo m k).admission = s.admission := rfl
@[simp] theorem State.resetTo_host (s : State) (m : Memory) (k : Nat) : (s.resetTo m k).host = s.host := rfl
@[simp] theorem State.resetTo_before (s : State) (m : Memory) (k : Nat) : (s.resetTo m k).before = [] := rfl
@[simp] theorem State.resetTo_draws (s : State) (m : Memory) (k : Nat) : (s.resetTo m k).draws = k := rfl

@[simp] theorem State.present_busy (s : State) (c : CmdWord) : (s.present c).busy = false := rfl
@[simp] theorem State.present_op (s : State) (c : CmdWord) : (s.present c).op = s.op := rfl
@[simp] theorem State.present_src (s : State) (c : CmdWord) : (s.present c).src = s.src := rfl
@[simp] theorem State.present_dst (s : State) (c : CmdWord) : (s.present c).dst = s.dst := rfl
@[simp] theorem State.present_n (s : State) (c : CmdWord) : (s.present c).n = s.n := rfl
@[simp] theorem State.present_idx (s : State) (c : CmdWord) : (s.present c).idx = s.idx := rfl
@[simp] theorem State.present_mem (s : State) (c : CmdWord) : (s.present c).mem = s.mem := rfl
@[simp] theorem State.present_aw (s : State) (c : CmdWord) : (s.present c).aw = Config.packedAW := rfl
@[simp] theorem State.present_admission (s : State) (c : CmdWord) : (s.present c).admission = s.admission := rfl
@[simp] theorem State.present_host (s : State) (c : CmdWord) : (s.present c).host = .command c :: s.host := rfl
@[simp] theorem State.present_before (s : State) (c : CmdWord) : (s.present c).before = s.before := rfl
@[simp] theorem State.present_draws (s : State) (c : CmdWord) : (s.present c).draws = s.draws := rfl

@[simp] theorem State.reset_busy : State.reset.busy = false := rfl
@[simp] theorem State.reset_mem : State.reset.mem = [] := rfl
@[simp] theorem State.reset_host : State.reset.host = [] := rfl
@[simp] theorem State.reset_before : State.reset.before = [] := rfl
@[simp] theorem State.reset_aw : State.reset.aw = Config.defaultAW := rfl
@[simp] theorem State.reset_admission : State.reset.admission = [⟨0, 2 ^ Config.defaultAW⟩] := rfl
@[simp] theorem State.reset_draws : State.reset.draws = 0 := rfl

end Sys2Proof.Machine
end

