-- ==== Sys2Proof/Laws/Engine.lean ====
section
/-!
SUPPORT. What an engine step, a command and a turn can answer: each says once everything its operation does.
-/

namespace Sys2Proof.Machine

/-- A pixel step inside memory converts one pixel. -/
theorem pixelStep_next {s : State} (hs : s.sourceAddr + 4 ≤ 2 ^ s.aw) (hd : s.destAddr + 4 ≤ 2 ^ s.aw) :
    pixelStep s =
      .next (s.pixelDone (s.mem.writePixel s.destAddr (convert s.op (s.mem.readPixel s.sourceAddr)))) := by
  unfold pixelStep; rw [if_pos ⟨hs, hd⟩]

/-- Everything an engine step can answer. -/
theorem engineStep_cases (s : State) :
    (s.idx.toNat < s.n.toNat ∧ s.sourceAddr + 4 ≤ 2 ^ s.aw ∧ s.destAddr + 4 ≤ 2 ^ s.aw ∧
      engineStep s =
        .next (s.pixelDone (s.mem.writePixel s.destAddr (convert s.op (s.mem.readPixel s.sourceAddr))))) ∨
    (s.idx.toNat < s.n.toNat ∧ ¬ (s.sourceAddr + 4 ≤ 2 ^ s.aw ∧ s.destAddr + 4 ≤ 2 ^ s.aw) ∧
      engineStep s = .fault .outsideMemory) ∨
    (s.idx.toNat = s.n.toNat ∧ engineStep s = .next s.complete) ∨
    (s.n.toNat < s.idx.toNat ∧ engineStep s = .fault .noStepEnabled) := by
  unfold engineStep
  by_cases h1 : s.idx.toNat < s.n.toNat
  · rw [if_pos h1]
    by_cases h2 : s.sourceAddr + 4 ≤ 2 ^ s.aw ∧ s.destAddr + 4 ≤ 2 ^ s.aw
    · exact Or.inl ⟨h1, h2.1, h2.2, pixelStep_next h2.1 h2.2⟩
    · exact Or.inr (Or.inl ⟨h1, h2, by unfold pixelStep; rw [if_neg h2]⟩)
  · rw [if_neg h1]
    by_cases h2 : s.idx.toNat = s.n.toNat
    · exact Or.inr (Or.inr (Or.inl ⟨h2, by rw [if_pos h2]⟩))
    · exact Or.inr (Or.inr (Or.inr ⟨by omega, by rw [if_neg h2]⟩))

/-- A command that stands to a busy machine: the engine's next step, from the latched descriptor. -/
theorem exec_busy {i : Instr} {s : State} (h : s.busy = true) : exec i s = engineStep s := by
  cases i <;> simp [exec, execRgb2ycc, execYcc2rgb, h]

/-- A command that stands to an idle machine: its launch. -/
theorem exec_idle {op : Op} {dst src : Nat} {pixels : BitVec 32} {s : State} (h : s.busy = false) :
    exec (command op dst src pixels) s = launch op src dst pixels s := by
  cases op <;> simp [exec, command, execRgb2ycc, execYcc2rgb, h]

/-- Every command is `command` of its parts. -/
theorem instr_eq_command (i : Instr) : ∃ op dst src pixels, i = command op dst src pixels := by
  cases i with
  | rgb2ycc d s p => exact ⟨.rgb2ycc, d, s, p, rfl⟩
  | ycc2rgb d s p => exact ⟨.ycc2rgb, d, s, p, rfl⟩

/-- The engine's turn while a command is in progress. -/
theorem engineTurn_busy {s : State} (h : s.busy = true) : engineTurn s = engineStep s := by
  simp [engineTurn, h, exec_busy]

/-- The engine's turn while none is. -/
theorem engineTurn_idle {s : State} (h : s.busy = false) : engineTurn s = .next s := by
  simp [engineTurn, h]

/-- Whatever a command does to the machine, a launch, a pixel step or a completion did it. -/
theorem exec_next {i : Instr} {s t : State} (h : exec i s = .next t) :
    (s.busy = false ∧ ∃ op dst src pixels, i = command op dst src pixels ∧ LaunchOk s.aw s.admission dst src pixels ∧
      t = s.latch op src dst pixels) ∨
    (s.busy = true ∧ s.idx.toNat < s.n.toNat ∧ s.sourceAddr + 4 ≤ 2 ^ s.aw ∧ s.destAddr + 4 ≤ 2 ^ s.aw ∧
      t = s.pixelDone (s.mem.writePixel s.destAddr (convert s.op (s.mem.readPixel s.sourceAddr)))) ∨
    (s.busy = true ∧ s.idx.toNat = s.n.toNat ∧ t = s.complete) := by
  cases hb : s.busy with
  | false =>
    obtain ⟨op, dst, src, pixels, rfl⟩ := instr_eq_command i
    rw [exec_idle hb] at h
    rcases launch_cases op src dst pixels s with ⟨ok, e⟩ | ⟨r, -, e⟩ <;> rw [e] at h <;> cases h
    exact Or.inl ⟨rfl, op, dst, src, pixels, rfl, ok, rfl⟩
  | true =>
    rw [exec_busy hb] at h
    rcases engineStep_cases s with ⟨h1, h2, h3, e⟩ | ⟨-, -, e⟩ | ⟨h1, e⟩ | ⟨-, e⟩ <;> rw [e] at h <;> cases h
    · exact Or.inr (Or.inl ⟨rfl, h1, h2, h3, rfl⟩)
    · exact Or.inr (Or.inr ⟨rfl, h1, rfl⟩)

/-- When the host has the move of presenting a packed descriptor. -/
@[simp] theorem grants_command (s : State) (cmd : CmdWord) :
    s.grants (.command cmd) = true ↔ s.busy = false ∧ s.aw = Config.packedAW := by
  simp [State.grants]

/-- When the host has the move of presenting a descriptor as signals. -/
@[simp] theorem grants_signals (s : State) (op : Op) (dst src : Nat) (pixels : BitVec 32) :
    s.grants (.signals op dst src pixels) = true ↔ s.busy = false ∧ dst < 2 ^ s.aw ∧ src < 2 ^ s.aw := by
  simp [State.grants]

/-- When the host has the move of writing a byte (20_memory.md R68). -/
@[simp] theorem grants_write (s : State) (a : Nat) (b : Byte) :
    s.grants (.write a b) = true ↔
      a < 2 ^ s.aw ∧ ¬ (s.busy = true ∧ (s.inSource a = true ∨ s.inDest a = true)) := by
  cases hb : s.busy <;> simp [State.grants, hb]

/-- When the host has the move of reading a byte (20_memory.md R68). -/
@[simp] theorem grants_read (s : State) (a : Nat) :
    s.grants (.read a) = true ↔ a < 2 ^ s.aw ∧ ¬ (s.busy = true ∧ s.inDest a = true) := by
  cases hb : s.busy <;> simp [State.grants, hb]

@[simp] theorem grants_reset (s : State) : s.grants .reset = true := rfl

@[simp] theorem grants_idle (s : State) : s.grants .idle = true := rfl

/-- A step whose host's next move is granted is that move. -/
theorem step_granted {s : State} {m : HostMove} {rest : List HostMove} (hh : s.host = m :: rest) (hg : s.grants m = true) :
    step s = makeMove m (s.setHost rest) := by
  simp [step, turn, hh, hg]

/-- A step whose host's next move is not granted is the engine's, and the move waits. -/
theorem step_waiting {s : State} {m : HostMove} {rest : List HostMove} (hh : s.host = m :: rest)
    (hg : s.grants m = false) : step s = engineTurn s := by
  simp [step, turn, hh, hg]

/-- An engine's turn is the step of some command, or nothing. -/
theorem engineTurn_next {s t : State} (h : engineTurn s = .next t) :
    (s.busy = false ∧ t = s) ∨ ∃ i, exec i s = .next t := by
  cases hb : s.busy with
  | true => exact Or.inr ⟨s.current, by simpa [engineTurn, hb] using h⟩
  | false => rw [engineTurn_idle hb] at h; cases h; exact Or.inl ⟨rfl, rfl⟩

/-- Everything a step that answers a next state can have done: nothing, a command's step, a write or a read by the host,
or a reset. `moves` is what is left of the host's moves. -/
theorem step_next {s t : State} (h : step s = .next t) :
    ∃ moves, (s.busy = false ∧ t = s.setHost moves) ∨ (∃ i, exec i (s.setHost moves) = .next t) ∨
      (∃ a b rest, s.host = .write a b :: rest ∧ a < 2 ^ s.aw ∧
        ¬ (s.busy = true ∧ (s.inSource a = true ∨ s.inDest a = true)) ∧
        s.grants (.write a b) = true ∧ t = (s.setHost moves).setMem (s.mem.write a b)) ∨
      (∃ a rest, s.host = .read a :: rest ∧ t = s.setHost moves) ∨
      (∃ rest, s.host = .reset :: rest ∧ t = (s.setHost moves).takeReset) := by
  have engine : ∀ moves, engineTurn (s.setHost moves) = .next t →
      (s.busy = false ∧ t = s.setHost moves) ∨ ∃ i, exec i (s.setHost moves) = .next t := fun _ => engineTurn_next
  cases hh : s.host with
  | nil =>
    refine ⟨s.host, ?_⟩
    rw [show step s = engineTurn s by simp [step, turn, hh]] at h
    exact (engine s.host h).imp_right Or.inl
  | cons m rest =>
    cases hg : s.grants m with
    | false =>
      rw [step_waiting hh hg] at h
      exact ⟨s.host, (engine s.host h).imp_right Or.inl⟩
    | true =>
      rw [step_granted hh hg] at h
      refine ⟨rest, ?_⟩
      cases m with
      | command cmd =>
        simp only [makeMove, acceptCommand] at h
        split at h
        · cases h
        · exact Or.inr (Or.inl ⟨_, h⟩)
      | signals op dst src pixels => exact Or.inr (Or.inl ⟨_, h⟩)
      | write a b =>
        cases h
        have hw := (grants_write s a b).mp hg
        exact Or.inr (Or.inr (Or.inl ⟨a, b, rest, rfl, hw.1, hw.2, hg, rfl⟩))
      | read a => cases h; exact Or.inr (Or.inr (Or.inr (Or.inl ⟨a, rest, rfl, rfl⟩)))
      | reset => cases h; exact Or.inr (Or.inr (Or.inr (Or.inr ⟨rest, rfl, rfl⟩)))
      | idle => exact (engine rest h).imp_right Or.inl

/-- With the host waiting, a busy machine takes its engine's step. -/
theorem step_busy_waiting {s : State} (hb : s.busy = true) (hw : s.hostWaits = true) : step s = engineStep s := by
  rw [← engineTurn_busy hb]
  unfold State.hostWaits at hw
  split at hw
  · next hh => simp [step, turn, hh]
  · next hh => exact step_waiting hh (by simp [State.grants, hb])
  · next hh => exact step_waiting hh (by simp [State.grants, hb])
  · cases hw

/-- No step. -/
@[simp] theorem steps_zero (s : State) : steps 0 s = .next s := rfl

/-- One step and then `k` more. -/
theorem steps_of_next {s t : State} (h : step s = .next t) (k : Nat) : steps (k + 1) s = steps k t := by
  rw [steps, h]

/-- `k` steps and then one more. -/
theorem steps_then {k : Nat} {s t : State} (h : steps k s = .next t) : steps (k + 1) s = step t := by
  induction k generalizing s with
  | zero =>
    cases h
    rw [steps]
    cases step t <;> rfl
  | succ k ih =>
    rw [steps] at h
    split at h
    · next u e => rw [steps_of_next e]; exact ih h
    · cases h
    · cases h

/-- `steps` is the host's own run of the machine. -/
theorem core_run_eq_steps (k : Nat) (s : State) : core.run k s = steps k s := by
  induction k generalizing s with
  | zero => rfl
  | succ k ih =>
    rw [steps]
    refine (Host.Core.run.eq_2 core s k).trans ?_
    have e : core.step s = step s := rfl
    rw [e]
    cases step s with
    | next t => exact ih t
    | fault r => rfl
    | refused r => rfl

end Sys2Proof.Machine
end

