-- ==== Sys2Proof/Laws/Memory.lean ====
section
/-!
SUPPORT. What the memory operations do: a read after a write, the bytes a write leaves alone, and the canonical form,
which every operation keeps.
-/

namespace Sys2Proof.Machine

@[simp] theorem Memory.read_nil (a : Nat) : Memory.read [] a = unlistedByte := rfl

/-- A cell put in front answers for its address; every other address reads as before. -/
theorem Memory.read_cons_other {a c : Nat} (b : Byte) (m : Memory) (h : c ≠ a) :
    (Memory.cons a b m).read c = m.read c := by
  unfold Memory.cons
  split
  · rfl
  · simp [Memory.read, Ne.symm h]

/-- An address below a list's range is unlisted. -/
theorem Memory.read_of_lt {lo a : Nat} {m : Memory} (h : Memory.wfFrom lo m = true) (ha : a < lo) :
    m.read a = unlistedByte := by
  induction m generalizing lo with
  | nil => rfl
  | cons p rest ih =>
    simp [Memory.wfFrom] at h
    simp [Memory.read, show p.1 ≠ a by omega, ih h.2 (by omega)]

theorem Memory.wfFrom_mono {lo lo' : Nat} {m : Memory} (h : Memory.wfFrom lo m = true) (hl : lo' ≤ lo) :
    Memory.wfFrom lo' m = true := by
  cases m with
  | nil => rfl
  | cons p rest => simp [Memory.wfFrom] at h ⊢; exact ⟨⟨by omega, h.1.2⟩, h.2⟩

theorem Memory.read_cons_same {lo a : Nat} (b : Byte) {m : Memory} (h : Memory.wfFrom lo m = true) (ha : a < lo) :
    (Memory.cons a b m).read a = b := by
  unfold Memory.cons
  split
  · next hb => rw [Memory.read_of_lt h ha, hb]
  · simp [Memory.read]

theorem Memory.wfFrom_cons {lo a : Nat} (b : Byte) {m : Memory} (h : Memory.wfFrom (a + 1) m = true) (hl : lo ≤ a) :
    Memory.wfFrom lo (Memory.cons a b m) = true := by
  unfold Memory.cons
  split
  · exact Memory.wfFrom_mono h (by omega)
  · next hb => simp [Memory.wfFrom, h, hl, hb]

/-- A write leaves every other address alone. -/
@[simp] theorem Memory.read_write_other (m : Memory) {a c : Nat} (b : Byte) (h : c ≠ a) :
    (m.write a b).read c = m.read c := by
  induction m with
  | nil => simp [Memory.write, Memory.read_cons_other _ _ h]
  | cons p rest ih =>
    obtain ⟨k, v⟩ := p
    simp only [Memory.write]
    split
    · exact Memory.read_cons_other _ _ h
    · split
      · next hk => rw [Memory.read_cons_other _ _ h]; simp [Memory.read, show k ≠ c by omega]
      · simp only [Memory.read]; rw [ih]

theorem Memory.wfFrom_write {lo a : Nat} (b : Byte) {m : Memory} (h : Memory.wfFrom lo m = true) (hl : lo ≤ a) :
    Memory.wfFrom lo (m.write a b) = true := by
  induction m generalizing lo with
  | nil => exact Memory.wfFrom_cons b rfl hl
  | cons p rest ih =>
    obtain ⟨k, v⟩ := p
    simp [Memory.wfFrom] at h
    simp only [Memory.write]
    split
    · exact Memory.wfFrom_cons b (by simp [Memory.wfFrom, h.1.2, h.2]; omega) hl
    · split
      · next hk => exact Memory.wfFrom_cons b (hk ▸ h.2) hl
      · simp [Memory.wfFrom, h.1.1, h.1.2]; exact ih h.2 (by omega)

/-- A write keeps the canonical form. -/
theorem Memory.wf_write {m : Memory} (h : m.wf = true) (a : Nat) (b : Byte) : (m.write a b).wf = true :=
  Memory.wfFrom_write b h (Nat.zero_le a)

/-- A write below `size` keeps memory below `size`. -/
theorem Memory.within_write {size a : Nat} {m : Memory} (h : m.within size = true) (b : Byte) (ha : a < size) :
    (m.write a b).within size = true := by
  have cons : ∀ l : Memory, l.within size = true → (Memory.cons a b l).within size = true := by
    intro l hl
    unfold Memory.cons
    split
    · exact hl
    · simpa [Memory.within, ha] using hl
  induction m with
  | nil => exact cons [] rfl
  | cons p rest ih =>
    obtain ⟨k, v⟩ := p
    have hr : k < size ∧ Memory.within size rest = true := by simpa [Memory.within] using h
    simp only [Memory.write]
    split
    · exact cons _ h
    · split
      · exact cons _ hr.2
      · have := ih hr.2
        simpa [Memory.within, hr.1] using this

theorem Memory.read_write_same_from {lo : Nat} {m : Memory} (h : Memory.wfFrom lo m = true) (a : Nat) (b : Byte) :
    (m.write a b).read a = b := by
  induction m generalizing lo with
  | nil => exact Memory.read_cons_same b (lo := a + 1) rfl (by omega)
  | cons p rest ih =>
    obtain ⟨k, v⟩ := p
    have hr : Memory.wfFrom (k + 1) rest = true := by simp [Memory.wfFrom] at h; exact h.2
    simp only [Memory.write]
    split
    · next hk =>
      refine Memory.read_cons_same b (lo := k) ?_ hk
      simp [Memory.wfFrom] at h ⊢; exact ⟨h.1.2, h.2⟩
    · split
      · next hk => exact Memory.read_cons_same b (lo := k + 1) hr (by omega)
      · next hk => simp only [Memory.read]; rw [if_neg (Ne.symm hk)]; exact ih hr

/-- A read after a write to the same address gives the byte written. -/
theorem Memory.read_write_same {m : Memory} (h : m.wf = true) (a : Nat) (b : Byte) : (m.write a b).read a = b :=
  Memory.read_write_same_from h a b

/-- A pixel write leaves every byte outside the pixel alone. -/
theorem Memory.read_writePixel_other (m : Memory) {a c : Nat} (p : Pixel) (h : ¬ (a ≤ c ∧ c < a + 4)) :
    (m.writePixel a p).read c = m.read c := by
  unfold Memory.writePixel
  rw [Memory.read_write_other _ _ (by omega), Memory.read_write_other _ _ (by omega),
    Memory.read_write_other _ _ (by omega), Memory.read_write_other _ _ (by omega)]

/-- A pixel write keeps the canonical form. -/
theorem Memory.wf_writePixel {m : Memory} (h : m.wf = true) (a : Nat) (p : Pixel) : (m.writePixel a p).wf = true :=
  Memory.wf_write (Memory.wf_write (Memory.wf_write (Memory.wf_write h _ _) _ _) _ _) _ _

/-- A pixel write below `size` keeps memory below `size`. -/
theorem Memory.within_writePixel {size a : Nat} {m : Memory} (h : m.within size = true) (p : Pixel) (ha : a + 4 ≤ size) :
    (m.writePixel a p).within size = true :=
  Memory.within_write (Memory.within_write (Memory.within_write (Memory.within_write h _ (by omega)) _ (by omega)) _
    (by omega)) _ (by omega)

/-- A read of a pixel after its write gives the pixel. -/
theorem Memory.readPixel_writePixel {m : Memory} (h : m.wf = true) (a : Nat) (p : Pixel) :
    (m.writePixel a p).readPixel a = p := by
  have h1 := Memory.wf_write h a p.k0
  have h2 := Memory.wf_write h1 (a + 1) p.k1
  have h3 := Memory.wf_write h2 (a + 2) p.k2
  unfold Memory.readPixel Memory.writePixel
  rw [Memory.read_write_same h3, Memory.read_write_other _ _ (show a ≠ a + 3 by omega),
    Memory.read_write_other _ _ (show a ≠ a + 2 by omega), Memory.read_write_other _ _ (show a ≠ a + 1 by omega),
    Memory.read_write_same h, Memory.read_write_other _ _ (show a + 1 ≠ a + 3 by omega),
    Memory.read_write_other _ _ (show a + 1 ≠ a + 2 by omega), Memory.read_write_same h1,
    Memory.read_write_other _ _ (show a + 2 ≠ a + 3 by omega), Memory.read_write_same h2]

/-- Byte `k` of a pixel read from memory. -/
theorem Memory.readPixel_byte (m : Memory) (a : Nat) {k : Nat} (hk : k < 4) : (m.readPixel a).byte k = m.read (a + k) := by
  match k, hk with
  | 0, _ => rfl
  | 1, _ => rfl
  | 2, _ => rfl
  | 3, _ => rfl

/-- Byte `c` of a pixel written at `a`. -/
theorem Memory.read_writePixel_same {m : Memory} (h : m.wf = true) {a c : Nat} (p : Pixel)
    (hc : a ≤ c ∧ c < a + 4) : (m.writePixel a p).read c = p.byte (c - a) := by
  have e := Memory.readPixel_byte (m.writePixel a p) a (k := c - a) (by omega)
  rw [Memory.readPixel_writePixel h a p, show a + (c - a) = c by omega] at e
  exact e.symm

/-- A filled range keeps the canonical form. -/
theorem Memory.wf_fill {f : Nat → Byte} {a count : Nat} {m : Memory} (h : m.wf = true) :
    (Memory.fill f a count m).wf = true := by
  induction count generalizing a m with
  | zero => exact h
  | succ k ih => exact ih (Memory.wf_write h _ _)

/-- A range below `size`, filled, keeps memory below `size`. -/
theorem Memory.within_fill {f : Nat → Byte} {size a count : Nat} {m : Memory} (h : m.within size = true)
    (ha : a + count ≤ size) : (Memory.fill f a count m).within size = true := by
  induction count generalizing a m with
  | zero => exact h
  | succ k ih => exact ih (Memory.within_write h _ (by omega)) (by omega)

/-- A fill leaves every byte outside its range alone. -/
theorem Memory.read_fill_other {f : Nat → Byte} {a count c : Nat} {m : Memory} (h : ¬ (a ≤ c ∧ c < a + count)) :
    (Memory.fill f a count m).read c = m.read c := by
  induction count generalizing a m with
  | zero => rfl
  | succ k ih => rw [Memory.fill, ih (by omega), Memory.read_write_other _ _ (by omega)]

/-- Inside its range a fill leaves the bytes it was given. -/
theorem Memory.read_fill_same {f : Nat → Byte} {a count c : Nat} {m : Memory} (h : m.wf = true)
    (hc : a ≤ c ∧ c < a + count) : (Memory.fill f a count m).read c = f c := by
  induction count generalizing a m with
  | zero => omega
  | succ k ih =>
    rw [Memory.fill]
    by_cases e : c = a
    · rw [Memory.read_fill_other (by omega), e, Memory.read_write_same h]
    · exact ih (Memory.wf_write h _ _) (by omega)

/-- The memory after reset is in canonical form. -/
theorem reset_mem_wf : State.reset.mem.wf = true := rfl

end Sys2Proof.Machine
end

