-- ==== Sys2Proof/Tests/Slice0.lean ====
section
/-!
SUPPORT. The model's own tests: expected results come from spec/ (95_test_vectors.md and the examples of the rules), and
for every statement with hypotheses a theorem shows operands and a state that meet them.
-/

namespace Sys2Proof.Tests

open Sys2Proof Sys2Proof.Machine

/-! ### Helpers -/

/-- The next state, if there is one. -/
def nextOf : Host.Outcome State Fault Refusal → Option State
  | .next t => some t
  | _ => none

/-- The spec's reason of a refusal, if there is one. -/
def reasonOf : Host.Outcome State Fault Refusal → Option RefusalReason
  | .refused (.launch reason) => some reason
  | _ => none

/-- What `f` reads from the state after a step. -/
def after {α : Type} (o : Host.Outcome State Fault Refusal) (f : State → α) : Option α := (nextOf o).map f

/-- An idle machine with the admitted range of 95_test_vectors.md Part 3, and one RGB and one YCC pixel in memory. -/
def board (moves : List HostMove) : State :=
  { State.reset with
    mem := [(0x1000, 0xFF), (0x1003, 0x11), (0x1102, 0xFF), (0x1103, 0xFF), (0x1104, 0x7F)]
    admission := [⟨0x1000, 0x4000⟩]
    host := moves }

/-- The machine with a command of one pixel launched on `board`. -/
def running (op : Op) (src dst : Nat) (idx : BitVec 32) (moves : List HostMove) : State :=
  { board moves with busy := true, op := op, src := src, dst := dst, n := 1, idx := idx, before := (board []).mem }

/-- An idle machine whose addresses have 16 bits, all of them admitted. -/
def narrow (m : HostMove) : State := { board [m] with aw := 16, admission := [⟨0, 0x10000⟩] }

/-- The descriptor of P1 with count 1. -/
def wordP1 : CmdWord := 0x00000001000020000000100000000000

theorem launchOk_of {aw : Nat} {admission : List Region} {dst src : Nat} {pixels : BitVec 32}
    (h : launchRefusal aw admission src dst pixels = none) : LaunchOk aw admission dst src pixels :=
  (launchRefusal_eq_none aw admission src dst pixels).mp h

theorem legal_of {dst src p : Nat} (h : overlapLegal src dst p = true) : RegionsLegal dst src p :=
  (overlapLegal_iff src dst p).mp h

theorem not_legal_of {dst src p : Nat} (h : overlapLegal src dst p = false) : ¬ RegionsLegal dst src p :=
  fun hl => absurd ((overlapLegal_iff src dst p).mpr hl) (by simp [h])

theorem running_legal (op : Op) (moves : List HostMove) : (running op 0x1000 0x2000 0 moves).Legal where
  srcAddr := (by decide : 0x1000 < 2 ^ 32)
  dstAddr := (by decide : 0x2000 < 2 ^ 32)
  index := fun _ => (by decide : 0 ≤ 1)
  srcFits := fun _ => (by decide : 0x1000 + 4 * 1 ≤ 2 ^ 32)
  dstFits := fun _ => (by decide : 0x2000 + 4 * 1 ≤ 2 ^ 32)
  overlap := fun _ => legal_of (by decide : overlapLegal 0x1000 0x2000 1 = true)
  admitted := fun _ => (footprint_iff [⟨0x1000, 0x4000⟩] 0x1000 0x2000 1).mp (by decide)

theorem running_canonical (op : Op) (moves : List HostMove) : (running op 0x1000 0x2000 0 moves).Canonical :=
  ⟨(by decide : (board []).mem.wf = true), (by decide : (board []).mem.wf = true),
   (by decide : (board []).mem.within (2 ^ 32) = true), (by decide : (board []).mem.within (2 ^ 32) = true)⟩

theorem running_progress (op : Op) (moves : List HostMove) : (running op 0x1000 0x2000 0 moves).Progress := by
  intro _
  refine ⟨fun a h1 h2 => ?_, fun _ _ _ => rfl, fun _ _ _ => rfl⟩
  have h1' : 0x2000 ≤ a ∧ a < 0x2000 + 4 * 1 := inRegion_iff.mp h1
  have h2' : a < 0x2000 + 4 * 0 := h2
  omega

/-- A pixel step of `running` completes. -/
theorem running_next (op : Op) (i : Instr) (moves : List HostMove) :
    ∃ t, exec i (running op 0x1000 0x2000 0 moves) = .next t := by
  have hi : (running op 0x1000 0x2000 0 moves).idx.toNat < (running op 0x1000 0x2000 0 moves).n.toNat := (by decide : 0 < 1)
  rw [exec_busy rfl, engineStep, if_pos hi]
  exact ⟨_, pixelStep_next (by decide : 0x1000 + 4 * 0 + 4 ≤ 2 ^ 32) (by decide : 0x2000 + 4 * 0 + 4 ≤ 2 ^ 32)⟩

/-! ### Well-formedness -/

/-- 30_encoding.md R87: `PIXELS = -1` spells no command; neither does the most negative count. -/
theorem test_negative_count_is_ill_formed :
    (Instr.rgb2ycc 0x2000 0x1000 0xFFFFFFFF).wellFormed 32 = false ∧
    (Instr.ycc2rgb 0x2000 0x1000 0x80000000).wellFormed 32 = false := by decide

/-- 30_encoding.md R85: an address of 33 bits is none where `AW = 32`, one of 17 bits none where `AW = 16`. -/
theorem test_wide_address_is_ill_formed :
    (Instr.rgb2ycc 0x100000000 0 1).wellFormed 32 = false ∧ (Instr.ycc2rgb 0 0x100000000 1).wellFormed 32 = false ∧
    (Instr.rgb2ycc 0x10000 0 1).wellFormed 16 = false ∧ (Instr.rgb2ycc 0xFFFF 0 1).wellFormed 16 = true := by decide

/-- 30_encoding.md R87: 0 and `2^31 - 1` are counts. -/
theorem test_count_is_well_formed :
    (Instr.rgb2ycc 0x2000 0x1000 0).wellFormed 32 = true ∧
    (Instr.ycc2rgb 0x2000 0x1000 0x7FFFFFFF).wellFormed 32 = true := by decide

/-! ### Decoding: words written out from 30_encoding.md R85 and R86 -/

/-- R92's example, packed `W3 .. W0` field by field. -/
theorem test_decode_rgb2ycc :
    decode (0x00000003#32 ++ 0x00002000#32 ++ 0x00001000#32 ++ 0x00000000#32) =
      .ok (.rgb2ycc 0x2000 0x1000 3) := by rfl

/-- P2's descriptor (95_test_vectors.md), packed `W3 .. W0` field by field. -/
theorem test_decode_ycc2rgb :
    decode (0x00000003#32 ++ 0x00002203#32 ++ 0x00001101#32 ++ 0x00000001#32) =
      .ok (.ycc2rgb 0x2203 0x1101 3) := by rfl

/-- P5-2, P5-3, P5-4: a reserved bit makes no command of either `OP`. -/
theorem test_decode_reserved :
    decode 0x00000003000020000000100000000002 = .error .reservedBits ∧
    decode 0x00000003000020000000100080000000 = .error .reservedBits ∧
    decode 0x00000003000020000000100000000003 = .error .reservedBits := ⟨rfl, rfl, rfl⟩

/-- The encoder writes the word of R92's example and of P2. -/
theorem test_encode :
    encode (.rgb2ycc 0x2000 0x1000 3) = 0x00000003000020000000100000000000 ∧
    encode (.ycc2rgb 0x2203 0x1101 3) = 0x00000003000022030000110100000001 := by decide

/-- The opcode table's words: `OP` alone, with every operand 0. -/
theorem test_table_words :
    decodeTableWord 32 0 = some (.rgb2ycc 0 0 0) ∧ decodeTableWord 32 1 = some (.ycc2rgb 0 0 0) ∧
    decodeTableWord 128 (2 ^ 96 + 1) = some (.ycc2rgb 0 0 1) ∧ decodeTableWord 32 2 = none := by decide

/-- 60_exceptions.md R221: the enumeration of reasons is closed at the six of the table. -/
theorem test_six_reasons (reason : RefusalReason) :
    reason ∈ [.reservedBits, .negativeCount, .srcWrap, .dstWrap, .partialOverlap, .notAdmitted] := by
  cases reason <;> decide

/-! ### One step of each command -/

/-- P1's launch row: the descriptor is latched. -/
theorem test_rgb2ycc_launch :
    after (step (board [.command wordP1])) (fun t => (t.busy, t.op, t.src, t.dst, t.n, t.idx)) =
      some (true, .rgb2ycc, 0x1000, 0x2000, 1, 0) := by decide +kernel

/-- V-FWD4, the first pixel step of P1: FF 00 00 11 becomes 4C 54 FF 11. -/
theorem test_rgb2ycc_pixel :
    after (exec (.rgb2ycc 0x2000 0x1000 1) (running .rgb2ycc 0x1000 0x2000 0 []))
      (fun t => (t.idx, t.mem.readPixel 0x2000, t.mem.read 0x2004)) =
      some (1, ⟨0x4C, 0x54, 0xFF, 0x11⟩, 0) := by decide +kernel

/-- P2's launch row, with count 1. -/
theorem test_ycc2rgb_launch :
    after (exec (.ycc2rgb 0x2203 0x1101 1) (board [])) (fun t => (t.busy, t.op, t.src, t.dst, t.n, t.idx)) =
      some (true, .ycc2rgb, 0x1101, 0x2203, 1, 0) := by decide +kernel

/-- V-REV5, the first pixel step of P2, at unaligned addresses: 00 FF FF 7F becomes B2 00 E1 7F. -/
theorem test_ycc2rgb_pixel :
    after (step (running .ycc2rgb 0x1101 0x2203 0 []))
      (fun t => (t.idx, t.mem.readPixel 0x2203, t.mem.readPixel 0x1101)) =
      some (1, ⟨0xB2, 0x00, 0xE1, 0x7F⟩, ⟨0x00, 0xFF, 0xFF, 0x7F⟩) := by decide +kernel

/-- 95_test_vectors.md P5: the refused launches with their reasons, in the order P5-2, 3, 4, 5, 6, 8, 9, 10. -/
theorem test_refusals_first :
    [0x00000003000020000000100000000002, 0x00000003000020000000100080000000, 0x00000003000020000000100000000003,
     0xFFFFFFFF000020000000100000000000, 0x80000000000020000000100000000000, 0xFFFFFFFF000020000000100000000002,
     0x0000000100002000FFFFFFFD00000000, 0x0000000100002000FFFFFFFC00000000].map
      (fun w => reasonOf (step (board [.command w]))) =
    [some .reservedBits, some .reservedBits, some .reservedBits, some .negativeCount, some .negativeCount,
     some .reservedBits, some .srcWrap, some .notAdmitted] := by decide +kernel

/-- 95_test_vectors.md P5, in the order P5-12, 13, 14, 15, 16, 17, 20, 22, 23. -/
theorem test_refusals_second :
    [0x00000001FFFFFFFD0000100000000000, 0x00000001FFFFFFFDFFFFFFFD00000000, 0x7FFFFFFF00001FFC0000100000000000,
     0x00000002000010040000100000000000, 0x00000002000010000000100400000000, 0x00000001000010010000100000000000,
     0x000000020000100000003FFC00000001, 0x0000000100000FFF0000200000000001, 0x0000000200000FFE00000FFC00000001].map
      (fun w => reasonOf (step (board [.command w]))) =
    [some .dstWrap, some .srcWrap, some .srcWrap, some .partialOverlap, some .partialOverlap, some .partialOverlap,
     some .notAdmitted, some .notAdmitted, some .partialOverlap] := by decide +kernel

/-- 95_test_vectors.md P5, the accepted ones: P5-1, 7, 18, 19, 21 and the second command of P4. -/
theorem test_accepted :
    [0x00000003000020000000100000000000, 0x00000000000020000000100000000000, 0x00000002000010080000100000000000,
     0x00000002000010000000100000000000, 0x000000010000100000003FFC00000001, 0x00000000FFFFFFFF0000000400000001].map
      (fun w => after (step (board [.command w])) (fun t => (t.busy, t.n))) =
    [some (true, 3), some (true, 0), some (true, 2), some (true, 2), some (true, 1), some (true, 0)] := by decide +kernel

/-- 44_engine_control.md R201: a command presented during a command is not accepted, and the pixel step is taken. -/
theorem test_busy_port :
    after (step (running .ycc2rgb 0x1101 0x2203 0 [.command wordP1])) (fun t => (t.op, t.src, t.idx, t.host)) =
      some (.ycc2rgb, 0x1101, 1, [.command wordP1]) := by decide +kernel

/-- 20_memory.md R68: during a command the host writes outside the regions and reads outside the destination; a write in a
region waits, and the pixel step is taken (log entry 6). -/
theorem test_host_duty :
    after (step (running .rgb2ycc 0x1000 0x2000 0 [.write 0x2004 0x55])) (fun t => (t.mem.read 0x2004, t.idx, t.host)) =
      some (0x55, 0, []) ∧
    after (step (running .rgb2ycc 0x1000 0x2000 0 [.write 0x2003 0x55])) (fun t => (t.mem.read 0x2003, t.idx, t.host)) =
      some (0x11, 1, [.write 0x2003 0x55]) ∧
    after (step (running .rgb2ycc 0x1000 0x2000 0 [.read 0x2000])) (fun t => (t.idx, t.host)) = some (1, [.read 0x2000]) ∧
    after (step (running .rgb2ycc 0x1000 0x2000 0 [.read 0x1000])) (fun t => (t.idx, t.host)) = some (0, []) := by
  decide +kernel

/-- 00_scope.md R5, 30_encoding.md R85: where `AW = 16` a descriptor is given as signals; its wraps are at `2^16`
(44_engine_control.md R192), and there is no packed form. -/
theorem test_other_address_width :
    after (step (narrow (.signals .ycc2rgb 0x2000 0xFFFC 1))) (fun t => (t.busy, t.op, t.src, t.dst, t.n)) =
      some (true, .ycc2rgb, 0xFFFC, 0x2000, 1) ∧
    reasonOf (step (narrow (.signals .ycc2rgb 0x2000 0xFFFD 1))) = some .srcWrap ∧
    reasonOf (step (narrow (.signals .rgb2ycc 0xFFFD 0x2000 1))) = some .dstWrap ∧
    after (step (narrow (.signals .rgb2ycc 0xFFFF 0x2000 0))) (fun t => (t.busy, t.dst)) = some (true, 0xFFFF) ∧
    after (step (narrow (.command wordP1))) (fun t => (t.busy, t.host)) = some (false, [.command wordP1]) := by
  decide +kernel

/-- 60_exceptions.md R220: the faults are the model's, for states that no run reaches (log entry 11). -/
theorem test_faults :
    exec (.rgb2ycc 0 0 0) (running .rgb2ycc 0x1000 0x2000 2 []) = .fault .noStepEnabled ∧
    exec (.rgb2ycc 0 0 0) (running .rgb2ycc 0xFFFFFFFD 0x2000 0 []) = .fault .outsideMemory := ⟨rfl, rfl⟩

/-- The opcode table's rows run from reset as the first command (zero count). -/
theorem test_runs_from_reset :
    after (step (State.reset.withFetchWord 32 0)) (fun t => (t.busy, t.op)) = some (true, .rgb2ycc) ∧
    after (step (State.reset.withFetchWord 32 1)) (fun t => (t.busy, t.op)) = some (true, .ycc2rgb) := by decide +kernel

/-! ### Witnesses: what the statements assume can be met -/

/-- AsrIsFloorOfDivision: a lower `q`, and the greatest one. -/
theorem test_meets_AsrIsFloorOfDivision : (-3 : Int) * 2 ^ 6 ≤ -65 ∧ (-2 : Int) * 2 ^ 6 ≤ -65 ∧ asr (-65) 6 = -2 := by decide

/-- ClampSaturates: each of its three cases, at its ends. -/
theorem test_meets_ClampSaturates :
    ((0 : Int) ≤ 0 ∧ clamp255 0 = 0) ∧ ((255 : Int) ≤ 255 ∧ clamp255 255 = 255) ∧
    ((0 : Int) < 1 ∧ (1 : Int) < 255 ∧ clamp255 1 = 1) ∧ ((0 : Int) < 254 ∧ (254 : Int) < 255 ∧ clamp255 254 = 254) := by
  decide

/-- RoundTHTruncates: a case for each of its clauses, at its ends. -/
theorem test_meets_RoundTHTruncates :
    ((0 : Int) < 5 ∧ (0 : Int) ≤ 0 ∧ tdiv 0 5 = 0) ∧ ((-1 : Int) < 0 ∧ tdiv (-1) 5 = 0) ∧
    ((0 : Int) ≤ 0 ∧ roundTH 0 2 = 0) ∧ (2 * (-1 : Int) ≤ -2 ∧ roundTH (-1) 2 = 0) ∧
    (2 * (-3 : Int) ≤ -4 ∧ ¬ ((2 * 4 : Int) ∣ 2 * (-3) + 4) ∧ roundTH (-3) 4 = 0) ∧
    (-(4 : Int) < 2 * (-1) ∧ (-1 : Int) < 0 ∧ roundTH (-1) 4 = 0) := by decide

/-- ForwardTableFacts and ReverseTableFacts: two channel values in order, two roles that differ. -/
theorem test_meets_TableFacts : (0 : Byte) ≤ 255 ∧ Role.yR ≠ Role.rCr := by decide

/-- ForwardKnownValues: a grey value on the list, and one off it. -/
theorem test_meets_ForwardKnownValues :
    ((fwdPixel ⟨11, 11, 11, 0⟩).y.toNat = 10) ∧ (fwdPixel ⟨12, 12, 12, 0⟩).y = 12 := by decide +kernel

/-- EncodeInvertsDecode. DecodeInvertsEncode: the widest addresses the packed form has room for. -/
theorem test_meets_EncodeInvertsDecode :
    decode wordP1 = .ok (.rgb2ycc 0x2000 0x1000 1) ∧
    (Instr.ycc2rgb 0xFFFFFFFF 0xFFFFFFFF 0xFFFFFFFF).fits Config.packedAW = true := ⟨rfl, by decide⟩

/-- ReservedBitsSpellNoCommand: the lowest and the highest reserved bit, and none. -/
theorem test_meets_ReservedBits :
    (0x2#128).getLsbD 1 = true ∧ (0x80000000#128).getLsbD 31 = true ∧ decode 0x2#128 = .error .reservedBits ∧
    decode 0x80000000#128 = .error .reservedBits ∧ decode 0x100000000#128 = .ok (.rgb2ycc 0 1 0) := ⟨rfl, rfl, rfl, rfl, rfl⟩

/-- StepRunsPresentedCommand: a packed descriptor, one given as signals (an address at the top of its range), a table word. -/
theorem test_meets_StepRunsPresentedCommand :
    ((board [.command wordP1]).busy = false ∧ (board [.command wordP1]).aw = Config.packedAW ∧
      (board [.command wordP1]).host = .command wordP1 :: [] ∧ decode wordP1 = .ok (.rgb2ycc 0x2000 0x1000 1)) ∧
    ((narrow (.signals .rgb2ycc 0xFFFF 0 0)).busy = false ∧ 0xFFFF < 2 ^ (narrow (.signals .rgb2ycc 0xFFFF 0 0)).aw ∧
      (narrow (.signals .rgb2ycc 0xFFFF 0 0)).host = .signals .rgb2ycc 0xFFFF 0 0 :: []) ∧
    decodeTableWord 32 1 = some (.ycc2rgb 0 0 0) := ⟨⟨rfl, rfl, rfl, rfl⟩, ⟨rfl, by decide, rfl⟩, by decide⟩

/-- StepAdvancesCommandInProgress: the host waits with nothing, with a command, and lets a turn pass. -/
theorem test_meets_StepAdvances :
    (running .rgb2ycc 0x1000 0x2000 0 []).busy = true ∧ (running .rgb2ycc 0x1000 0x2000 0 []).hostWaits = true ∧
    (running .rgb2ycc 0x1000 0x2000 0 [.command wordP1]).hostWaits = true ∧
    (running .rgb2ycc 0x1000 0x2000 0 [.signals .rgb2ycc 0 0 0]).hostWaits = true ∧
    (running .rgb2ycc 0x1000 0x2000 0 [.idle]).host = .idle :: [] := ⟨rfl, rfl, rfl, rfl, rfl⟩

/-- BusyAcceptsNoCommand: a command on the port of a busy machine, whose step goes on. -/
theorem test_meets_BusyAcceptsNoCommand :
    ∃ t, (running .rgb2ycc 0x1000 0x2000 0 [.command wordP1]).busy = true ∧
      step (running .rgb2ycc 0x1000 0x2000 0 [.command wordP1]) = .next t := by
  obtain ⟨t, h⟩ := running_next .rgb2ycc (running .rgb2ycc 0x1000 0x2000 0 []).current [.command wordP1]
  exact ⟨t, rfl, h⟩

/-- IdleMachineWaits, both clauses. -/
theorem test_meets_IdleMachineWaits :
    (board []).busy = false ∧ (board []).host = [] ∧ (board [.idle]).host = .idle :: [] := ⟨rfl, rfl, rfl⟩

/-- The launch statements, the whole-command statements, InPlaceEqualsOutOfPlace and PixelsAreIndependent: separate
buffers, the last bytes of memory as a destination, one buffer, abutting buffers, no pixel, the largest count of a
memory (`2^29` pixels and as many beside them). -/
theorem test_meets_LaunchOk :
    (board []).busy = false ∧ (board []).hostWaits = true ∧ (board []).mem.wf = true ∧
    LaunchOk (board []).aw (board []).admission 0x2000 0x1000 1 ∧ LaunchOk State.reset.aw State.reset.admission 0xFFFFFFFC 0 1 ∧
    LaunchOk (board []).aw (board []).admission 0x1000 0x1000 2 ∧ LaunchOk (board []).aw (board []).admission 0x1008 0x1000 2 ∧
    LaunchOk (board []).aw (board []).admission 0xFFFFFFFF 4 0 ∧ LaunchOk State.reset.aw State.reset.admission 0x80000000 0 0x20000000 :=
  ⟨rfl, rfl, by decide, launchOk_of (by decide), launchOk_of (by decide), launchOk_of (by decide),
   launchOk_of (by decide), launchOk_of (by decide), launchOk_of (by decide)⟩

/-- LaunchRefusedInOrder: its first clause, at the lowest and the highest reserved bit. -/
theorem test_meets_LaunchRefusedInOrder_reserved :
    (board [.command 0x2]).busy = false ∧ (board [.command 0x2]).aw = Config.packedAW ∧
    (board [.command 0x2]).host = .command 0x2 :: [] ∧
    (0x2 : CmdWord).getLsbD 1 = true ∧ (0x80000000 : CmdWord).getLsbD 31 = true := ⟨rfl, rfl, rfl, rfl, rfl⟩

/-- LaunchRefusedInOrder: a negative count, the lowest and the highest; a wrap by one byte of the source, and of the
destination, at two widths. -/
theorem test_meets_LaunchRefusedInOrder_range :
    (0x80000000#32).toInt < 0 ∧ (0xFFFFFFFF#32).toInt < 0 ∧
    (0xFFFFFFFD < 2 ^ 32 ∧ 0 ≤ (1#32).toInt ∧ 2 ^ 32 < 0xFFFFFFFD + 4 * (1#32).toNat) ∧
    (0xFFFFFFFC + 4 * (1#32).toNat ≤ 2 ^ 32 ∧ 2 ^ 32 < 0xFFFFFFFD + 4 * (1#32).toNat) ∧
    (0xFFFD < 2 ^ 16 ∧ 2 ^ 16 < 0xFFFD + 4 * (1#32).toNat) := by decide

/-- LaunchRefusedInOrder: regions one byte apart; regions that are legal and not admitted; a launch that goes on. -/
theorem test_meets_LaunchRefusedInOrder_regions :
    ¬ RegionsLegal 0x1001 0x1000 1 ∧
    (RegionsLegal 0x2000 0xFFFFFFFC 1 ∧ ¬ FootprintAdmitted (board []).admission 0x2000 0xFFFFFFFC 1) ∧
    (RegionsLegal 0x1000 0x3FFC 1 ∧ FootprintAdmitted (board []).admission 0x1000 0x3FFC 1) :=
  ⟨not_legal_of (by decide),
   ⟨legal_of (by decide), fun h => absurd ((footprint_iff _ _ _ _).mpr h) (by decide)⟩,
   legal_of (by decide), (footprint_iff _ _ _ _).mp (by decide)⟩

/-- The two pixel-step statements: a first pixel, and one that ends at the top of memory. -/
theorem test_meets_PixelStep (op : Op) :
    let s := running op 0x1000 0x2000 0 []
    let t := running op 0x1000 0xFFFFFFFC 0 []
    (s.busy = true ∧ s.op = op ∧ s.idx.toNat < s.n.toNat ∧ s.src + 4 * s.idx.toNat + 4 ≤ 2 ^ 32 ∧
      s.dst + 4 * s.idx.toNat + 4 ≤ 2 ^ 32 ∧ s.mem.wf = true) ∧
    (t.idx.toNat < t.n.toNat ∧ t.dst + 4 * t.idx.toNat + 4 ≤ 2 ^ 32 ∧ t.mem.wf = true) :=
  ⟨⟨rfl, rfl, (by decide : 0 < 1), (by decide : 0x1000 + 4 * 0 + 4 ≤ 2 ^ 32), (by decide : 0x2000 + 4 * 0 + 4 ≤ 2 ^ 32),
    (by decide : (board []).mem.wf = true)⟩, (by decide : 0 < 1), (by decide : 0xFFFFFFFC + 4 * 0 + 4 ≤ 2 ^ 32),
   (by decide : (board []).mem.wf = true)⟩

/-- CompletionClearsBusyOnly. -/
theorem test_meets_Completion (op : Op) :
    (running op 0x1000 0x2000 1 []).busy = true ∧
    (running op 0x1000 0x2000 1 []).idx.toNat = (running op 0x1000 0x2000 1 []).n.toNat := ⟨rfl, rfl⟩

/-- ZeroCountIsANoOp. -/
theorem test_meets_ZeroCount :
    (board []).busy = false ∧ (board []).hostWaits = true ∧ 0xFFFFFFFF < 2 ^ (board []).aw ∧ 0 < 2 ^ (board []).aw :=
  ⟨rfl, rfl, by decide, by decide⟩

/-- CommandFrame: a launch, a pixel step and a completion, each giving a next state. -/
theorem test_meets_CommandFrame :
    (∃ t, exec (.rgb2ycc 0x2000 0x1000 1) (board []) = .next t) ∧
    (∃ t, (running .rgb2ycc 0x1000 0x2000 0 []).idx.toNat < (running .rgb2ycc 0x1000 0x2000 0 []).n.toNat ∧
      exec (.rgb2ycc 0x2000 0x1000 1) (running .rgb2ycc 0x1000 0x2000 0 []) = .next t) ∧
    (∃ t, (running .ycc2rgb 0x1000 0x2000 1 []).idx.toNat = (running .ycc2rgb 0x1000 0x2000 1 []).n.toNat ∧
      exec (.ycc2rgb 0x2000 0x1000 1) (running .ycc2rgb 0x1000 0x2000 1 []) = .next t) :=
  ⟨⟨_, rfl⟩, (running_next .rgb2ycc _ []).imp fun _ h => ⟨by decide, h⟩, ⟨_, rfl, rfl⟩⟩

/-- BatchConsistency: a split in the middle, and the two splits with an empty part. -/
theorem test_meets_BatchConsistency :
    (1 + 1 < 2 ^ 31 ∧ LaunchOk (board []).aw (board []).admission 0x2000 0x1000 (BitVec.ofNat 32 (1 + 1))) ∧
    LaunchOk (board []).aw (board []).admission 0x2000 0x1000 (BitVec.ofNat 32 (0 + 2)) ∧
    LaunchOk (board []).aw (board []).admission 0x2000 0x1000 (BitVec.ofNat 32 (2 + 0)) :=
  ⟨⟨by decide, launchOk_of (by decide)⟩, launchOk_of (by decide), launchOk_of (by decide)⟩

/-- PixelsAreIndependent: two memories that agree on one source pixel and differ elsewhere. -/
theorem test_meets_PixelsAreIndependent :
    (board []).mem.readPixel 0x1000 = ((board []).mem.write 0x3000 0xEE).readPixel 0x1000 ∧
    (board []).mem ≠ (board []).mem.write 0x3000 0xEE ∧ ((board []).mem.write 0x3000 0xEE).wf = true := by decide

/-- The invariant statements: a machine in the middle of a command meets all three invariants, and steps. -/
theorem test_meets_Invariants (op : Op) :
    ∃ t, (running op 0x1000 0x2000 0 []).busy = true ∧ (running op 0x1000 0x2000 0 []).Legal ∧
      (running op 0x1000 0x2000 0 []).Canonical ∧ (running op 0x1000 0x2000 0 []).Progress ∧
      step (running op 0x1000 0x2000 0 []) = .next t := by
  obtain ⟨t, h⟩ := running_next op (running op 0x1000 0x2000 0 []).current []
  exact ⟨t, rfl, running_legal op [], running_canonical op [], running_progress op [], h⟩

/-- LaunchedCommandNeverStops: legal states with a command in progress, whose host has a move it may not make now. -/
theorem test_meets_LaunchedCommandNeverStops :
    (running .rgb2ycc 0x1000 0x2000 0 [.write 0x2000 0]).Legal ∧ (running .rgb2ycc 0x1000 0x2000 0 [.write 0x2000 0]).busy = true ∧
    (running .ycc2rgb 0x1000 0x2000 0 [.command 0x2]).Legal := ⟨running_legal _ _, rfl, running_legal _ _⟩

/-- OnlyALaunchIsRefused: a packed descriptor refused, and one given as signals. -/
theorem test_meets_OnlyALaunchIsRefused :
    step (board [.command 0x2]) = .refused (.launch .reservedBits) ∧
    step (board [.signals .rgb2ycc 0 0 0x80000000]) = .refused (.launch .negativeCount) := ⟨rfl, rfl⟩

/-- IdleRegistersAreDead: two idle states whose registers differ, before a launch and before a refused one. -/
theorem test_meets_IdleRegistersAreDead :
    (board [.command wordP1]).Agree { board [.command wordP1] with op := .ycc2rgb, src := 1, dst := 2, n := 3, idx := 4 } ∧
    (board [.command 0x2]).Agree { board [.command 0x2] with n := 3 } ∧
    (∃ t, step (board [.command wordP1]) = .next t) ∧ step (board [.command 0x2]) = .refused (.launch .reservedBits) :=
  ⟨⟨rfl, rfl, rfl, rfl, rfl, rfl, fun h => Bool.noConfusion h⟩, ⟨rfl, rfl, rfl, rfl, rfl, rfl, fun h => Bool.noConfusion h⟩,
   ⟨_, rfl⟩, rfl⟩

/-- ParametersNeverChange and EngineWritesOnlyDestination: an idle machine and a busy one step, the host writing nothing, or
waiting with a write. -/
theorem test_meets_EngineWritesOnlyDestination :
    (∃ t, step (board []) = .next t) ∧
    (∀ a b rest, (board []).host = .write a b :: rest → (board []).grants (.write a b) = false) ∧
    (running .rgb2ycc 0x1000 0x2000 0 [.write 0x2000 1]).grants (.write 0x2000 1) = false ∧
    (running .rgb2ycc 0x1000 0x2000 0 []).idx.toNat ≤ (running .rgb2ycc 0x1000 0x2000 0 []).n.toNat ∧
    (running .rgb2ycc 0x1000 0x2000 0 []).inDest 0x2003 = true ∧
    (running .rgb2ycc 0x1000 0x2000 0 []).inDest 0x2004 = false :=
  ⟨⟨_, rfl⟩, fun _ _ _ h => (by cases h), rfl, by decide, by decide, by decide⟩

/-- HostAccessesMemory: each clause, at the ends of the regions. -/
theorem test_meets_HostAccessesMemory :
    let s := running .rgb2ycc 0x1000 0x2000 0 [.write 0x1000 1]
    s.busy = true ∧ 0x1000 < 2 ^ s.aw ∧ s.host = .write 0x1000 1 :: [] ∧ s.mem.wf = true ∧ s.inSource 0x1000 = true ∧
    s.inSource 0x1003 = true ∧ s.inDest 0x1000 = false ∧ s.inSource 0x1004 = false ∧ s.inDest 0x1004 = false ∧
    s.inDest 0x2003 = true ∧ (board [.write 0x2000 1]).busy = false ∧
    (running .rgb2ycc 0x1000 0x2000 0 [.read 0x2000]).host = .read 0x2000 :: [] := by decide

/-- ResetWhileIdle. -/
theorem test_meets_ResetWhileIdle : (board [.reset]).busy = false ∧ (board [.reset]).host = .reset :: [] := ⟨rfl, rfl⟩

/-- ResetDuringCommand, with a byte inside the destination and one outside. -/
theorem test_meets_ResetDuringCommand :
    let s := running .rgb2ycc 0x1000 0x2000 0 [.reset]
    s.Legal ∧ s.Canonical ∧ s.busy = true ∧ s.host = .reset :: [] ∧ s.inDest 0x2000 = true ∧ s.inDest 0x2004 = false :=
  ⟨running_legal _ _, running_canonical _ _, rfl, rfl, by decide, by decide⟩

/-- EqualMemoriesAreEqualData: a byte written and one written back. -/
theorem test_meets_EqualMemories :
    (board []).mem.wf = true ∧ (((board []).mem.write 0x3000 1).write 0x3000 0).wf = true ∧
    ((board []).mem.write 0x3000 1).write 0x3000 0 = (board []).mem := by decide

end Sys2Proof.Tests
end

section
/-!
PROOFS. The value functions of 00_scope.md: the floor shift `asr` (R7), the clamp `clamp255` (R8), and the truncating
division `tdiv` with the rounding `roundTH` built on it (R9). First the rules of each function, one per case; then the
three statements, assembled from them.
-/

namespace Sys2Proof.Machine

/-! ### The floor shift -/

/-- The Galois connection of the floor shift: it alone gives both halves of "the greatest `q` with `q * 2^s <= v`". -/
theorem le_asr_iff (q v : Int) (s : Nat) : q ≤ asr v s ↔ q * 2 ^ s ≤ v :=
  Int.le_ediv_iff_mul_le (Int.pow_pos (by decide))

theorem asr_mul_pow_le (v : Int) (s : Nat) : asr v s * 2 ^ s ≤ v :=
  (le_asr_iff (asr v s) v s).mp le_rfl

/-! ### The clamp -/

theorem clamp255_of_nonpos {v : Int} (h : v ≤ 0) : clamp255 v = 0 := if_pos h

theorem clamp255_of_pos_of_lt {v : Int} (hpos : 0 < v) (hlt : v < 255) : clamp255 v = v := by
  rw [clamp255, if_neg (Int.not_le.mpr hpos), if_neg (Int.not_le.mpr hlt)]

theorem clamp255_of_ge {v : Int} (h : 255 ≤ v) : clamp255 v = 255 := by
  rw [clamp255, if_neg (by omega), if_pos h]

/-! ### The truncating division -/

theorem tdiv_of_nonneg {a : Int} (h : 0 ≤ a) (b : Int) : tdiv a b = a / b :=
  Int.tdiv_eq_ediv_of_nonneg h

theorem tdiv_neg_left (a b : Int) : tdiv (-a) b = -tdiv a b := Int.neg_tdiv a b

/-- Below zero, truncation is the floor of the mirrored dividend, mirrored back. -/
theorem tdiv_of_nonpos {a : Int} (h : a ≤ 0) (b : Int) : tdiv a b = -((-a) / b) := by
  rw [← tdiv_of_nonneg (Int.neg_nonneg_of_nonpos h), tdiv_neg_left, Int.neg_neg]

/-- Below zero and off the multiples of `b`, truncation is one above the floor. -/
theorem tdiv_of_nonpos_of_not_dvd {a b : Int} (ha : a ≤ 0) (hb : 0 < b) (hdvd : ¬ b ∣ a) : tdiv a b = a / b + 1 := by
  rw [tdiv_of_nonpos ha, Int.neg_ediv, if_neg hdvd, Int.sign_eq_one_of_pos hb]
  omega

/-! ### The rounding of the table entries

`2N + D` is the dividend of `roundTH N D`; its sign, and whether it reaches `2D`, choose the case. -/

theorem roundTH_of_nonneg {n d : Int} (hd : 0 < d) (hn : 0 ≤ n) : roundTH n d = (2 * n + d) / (2 * d) :=
  tdiv_of_nonneg (by omega) _

theorem roundTH_of_le_neg_half {n d : Int} (h : 2 * n ≤ -d) : roundTH n d = -((-(2 * n + d)) / (2 * d)) :=
  tdiv_of_nonpos (by omega) _

theorem roundTH_of_le_neg_half_of_not_dvd {n d : Int} (hd : 0 < d) (h : 2 * n ≤ -d) (hdvd : ¬ 2 * d ∣ 2 * n + d) :
    roundTH n d = (2 * n + d) / (2 * d) + 1 :=
  tdiv_of_nonpos_of_not_dvd (by omega) (by omega) hdvd

/-- Between minus one half and zero the dividend `2N + D` lies in `0 .. 2D - 1`, so the quotient vanishes. -/
theorem roundTH_eq_zero {n d : Int} (hlow : -d < 2 * n) (hn : n < 0) : roundTH n d = 0 := by
  have hnonneg : 0 ≤ 2 * n + d := by omega
  have hlt : 2 * n + d < 2 * d := by omega
  rw [roundTH, tdiv_of_nonneg hnonneg, Int.ediv_eq_zero_of_lt hnonneg hlt]

/-! ### The statements -/

/-- Settles O1: both halves are the Galois connection `le_asr_iff`; the examples of R7 are evaluated. -/
theorem asrIsFloorOfDivision : Obligations.AsrIsFloorOfDivision := by
  unfold Obligations.AsrIsFloorOfDivision
  refine ⟨fun v s => ⟨asr_mul_pow_le v s, fun q => (le_asr_iff q v s).mpr⟩, ?examples⟩
  case examples => decide

/-- Settles O2, by the three cases of the clamp and its range; the examples of R8 are evaluated. -/
theorem clampSaturates : Obligations.ClampSaturates := by
  unfold Obligations.ClampSaturates
  refine ⟨fun v => ⟨clamp255_of_nonpos, clamp255_of_ge, clamp255_of_pos_of_lt, clamp255_range v⟩, ?examples⟩
  case examples => decide

/-- Settles O3: truncation by the sign of the dividend, then `roundTH` by where `N/D` lies among `-1/2` and `0`; the
examples of R9 are evaluated. -/
theorem roundTHTruncates : Obligations.RoundTHTruncates := by
  unfold Obligations.RoundTHTruncates
  refine ⟨fun a b _ => ⟨?truncNonneg, ?truncNeg⟩, fun n d hd => ⟨rfl, ?nonneg, ?belowHalf, ?between⟩, ?examples⟩
  case truncNonneg => exact fun ha => tdiv_of_nonneg ha b
  case truncNeg => exact fun ha => tdiv_of_nonpos (Int.le_of_lt ha) b
  case nonneg => exact roundTH_of_nonneg hd
  case belowHalf => exact fun h => ⟨roundTH_of_le_neg_half h, roundTH_of_le_neg_half_of_not_dvd hd h⟩
  case between => exact roundTH_eq_zero
  case examples => decide

end Sys2Proof.Machine
end

section
/-!
PROOFS. What every step keeps (10_state.md R30, R31, R32): the two open parameters, and the launch preconditions of the
latched descriptor. First what a reset does to the fields, then the invariant under each update of the state; a command and a
step are assembled from these by `exec_next` and `step_next`.
-/

namespace Sys2Proof.Machine

/-! ### Reset -/

/-- Both branches of a reset write the registers alike (70_reset_and_hazards.md R250, R252). -/
theorem State.takeReset_eq_resetTo (s : State) : ∃ m k, s.takeReset = s.resetTo m k := by
  unfold State.takeReset
  split
  · exact ⟨_, _, rfl⟩
  · exact ⟨_, _, rfl⟩

theorem State.takeReset_idle {s : State} (h : s.busy = false) : s.takeReset = s.resetTo s.mem s.draws := by
  simp [State.takeReset, h]

/-! ### The parameters -/

theorem takeReset_keeps_parameters (s : State) : s.takeReset.aw = s.aw ∧ s.takeReset.admission = s.admission := by
  obtain ⟨m, k, e⟩ := s.takeReset_eq_resetTo
  rw [e]
  exact ⟨rfl, rfl⟩

theorem exec_keeps_parameters {i : Instr} {s t : State} (h : exec i s = .next t) :
    t.aw = s.aw ∧ t.admission = s.admission := by
  rcases exec_next h with ⟨-, op, dst, src, pixels, -, -, rfl⟩ | ⟨-, -, -, -, rfl⟩ | ⟨-, -, rfl⟩
  all_goals exact ⟨rfl, rfl⟩

theorem step_keeps_parameters {s t : State} (h : step s = .next t) :
    t.aw = s.aw ∧ t.admission = s.admission := by
  obtain ⟨moves, ⟨-, rfl⟩ | ⟨i, e⟩ | ⟨a, b, rest, -, -, -, -, rfl⟩ | ⟨a, rest, -, rfl⟩ | ⟨rest, -, rfl⟩⟩ := step_next h
  · exact ⟨rfl, rfl⟩
  · exact exec_keeps_parameters (s := s.setHost moves) e
  · exact ⟨rfl, rfl⟩
  · exact ⟨rfl, rfl⟩
  · exact takeReset_keeps_parameters (s.setHost moves)

/-! ### The latched descriptor

With `BUSY = 0` only the widths of `SRC` and `DST` are asked; the other clauses need a proof where a launch sets `BUSY`, and
where a pixel step moves `IDX`. -/

theorem State.Legal.of_idle {s : State} (hb : s.busy = false) (hsrc : s.src < 2 ^ s.aw) (hdst : s.dst < 2 ^ s.aw) :
    s.Legal := by
  have notBusy : ∀ {P : Prop}, s.busy = true → P := fun h => absurd h (by simp [hb])
  exact ⟨hsrc, hdst, notBusy, notBusy, notBusy, notBusy, notBusy⟩

theorem State.Legal.setHost {s : State} (h : s.Legal) (moves : List HostMove) : (s.setHost moves).Legal :=
  ⟨h.srcAddr, h.dstAddr, h.index, h.srcFits, h.dstFits, h.overlap, h.admitted⟩

theorem State.Legal.setMem {s : State} (h : s.Legal) (m : Memory) : (s.setMem m).Legal :=
  ⟨h.srcAddr, h.dstAddr, h.index, h.srcFits, h.dstFits, h.overlap, h.admitted⟩

theorem State.Legal.complete {s : State} (h : s.Legal) : s.complete.Legal :=
  .of_idle rfl h.srcAddr h.dstAddr

theorem State.resetTo_legal (s : State) (m : Memory) (k : Nat) : (s.resetTo m k).Legal :=
  .of_idle rfl (Nat.two_pow_pos s.aw) (Nat.two_pow_pos s.aw)

theorem State.takeReset_legal (s : State) : s.takeReset.Legal := by
  obtain ⟨m, k, e⟩ := s.takeReset_eq_resetTo
  exact e ▸ s.resetTo_legal m k

/-- What a launch checks of the descriptor is what the invariant asks of the latched one, the count keeping its value in `N`
(44_engine_control.md R191, R192). -/
theorem LaunchOk.latch_legal {s : State} {dst src : Nat} {pixels : BitVec 32}
    (ok : LaunchOk s.aw s.admission dst src pixels) (op : Op) : (s.latch op src dst pixels).Legal := by
  have hn : (s.latch op src dst pixels).n.toNat = pixels.toNat := latched_count ok.count
  exact {
    srcAddr := ok.srcAddr
    dstAddr := ok.dstAddr
    index := fun _ => Nat.zero_le _
    srcFits := fun _ => by rw [hn]; exact ok.srcFits
    dstFits := fun _ => by rw [hn]; exact ok.dstFits
    overlap := fun _ => by rw [hn]; exact ok.overlap
    admitted := fun _ => by rw [hn]; exact ok.admitted }

/-- Below `N`, a 31-bit count, the 32-bit `IDX` does not wrap (10_state.md R22). -/
theorem idx_succ_toNat {s : State} (h : s.idx.toNat < s.n.toNat) : (s.idx + 1).toNat = s.idx.toNat + 1 := by
  have hn := s.n.isLt
  rw [BitVec.toNat_add_of_lt (by simp; omega)]
  rfl

theorem State.Legal.pixelDone {s : State} (h : s.Legal) (hi : s.idx.toNat < s.n.toNat) (m : Memory) :
    (s.pixelDone m).Legal :=
  { srcAddr := h.srcAddr
    dstAddr := h.dstAddr
    index := fun _ => (idx_succ_toNat hi).symm ▸ hi
    srcFits := h.srcFits
    dstFits := h.dstFits
    overlap := h.overlap
    admitted := h.admitted }

theorem exec_keeps_legal {i : Instr} {s t : State} (hs : s.Legal) (h : exec i s = .next t) : t.Legal := by
  rcases exec_next h with ⟨-, op, dst, src, pixels, -, ok, rfl⟩ | ⟨-, hi, -, -, rfl⟩ | ⟨-, -, rfl⟩
  · exact ok.latch_legal op
  · exact hs.pixelDone hi _
  · exact hs.complete

theorem step_keeps_legal {s t : State} (hs : s.Legal) (h : step s = .next t) : t.Legal := by
  obtain ⟨moves, ⟨-, rfl⟩ | ⟨i, e⟩ | ⟨a, b, rest, -, -, -, -, rfl⟩ | ⟨a, rest, -, rfl⟩ | ⟨rest, -, rfl⟩⟩ := step_next h
  · exact hs.setHost moves
  · exact exec_keeps_legal (hs.setHost moves) e
  · exact (hs.setHost moves).setMem _
  · exact hs.setHost moves
  · exact (s.setHost moves).takeReset_legal

/-! ### The statements -/

/-- Settles O41, by what a step can have done: a launch has checked what it latches, a pixel step had `IDX < N`, and whatever
clears `BUSY` leaves addresses of `AW` bits. -/
theorem stepKeepsLatchedDescriptorLegal : Obligations.StepKeepsLatchedDescriptorLegal := by
  unfold Obligations.StepKeepsLatchedDescriptorLegal
  exact fun _ _ => step_keeps_legal

/-- Settles O46, by what a step can have done: no update of the state writes either field. -/
theorem parametersNeverChange : Obligations.ParametersNeverChange := by
  unfold Obligations.ParametersNeverChange
  exact fun _ _ => step_keeps_parameters

/-- Settles O40: with `BUSY = 0` the invariants ask only for addresses of `AW` bits and a canonical memory. -/
theorem resetMeetsInvariants : Obligations.ResetMeetsInvariants := by
  unfold Obligations.ResetMeetsInvariants
  refine ⟨State.reset_busy, ?legal, ?canonical, ?progress⟩
  case legal => exact .of_idle State.reset_busy (Nat.two_pow_pos _) (Nat.two_pow_pos _)
  case canonical => exact ⟨reset_mem_wf, rfl, rfl, rfl⟩
  case progress => exact fun busy => absurd busy (by simp)

end Sys2Proof.Machine
end

section
/-!
PROOFS. The registers `OP, SRC, DST, N, IDX` of an idle engine are dead (10_state.md R24): states that agree on everything else
answer every operation alike. Agreeing states are equal or both idle (`eq_or_idle`), so each operation is looked at with
`BUSY = 0` alone: a launch and a reset overwrite all five registers, and the other operations do
not look at them.
-/

namespace Sys2Proof.Machine

/-- The same kind of answer: next states that agree, or one reason. -/
def OutcomesAgree : Host.Outcome State Fault Refusal → Host.Outcome State Fault Refusal → Prop
  | .next s, .next t => s.Agree t
  | .refused r, .refused r' => r = r'
  | .fault f, .fault f' => f = f'
  | _, _ => False

theorem State.Agree.refl (s : State) : s.Agree s := ⟨rfl, rfl, rfl, rfl, rfl, rfl, fun _ => rfl⟩

theorem State.Agree.eq_or_idle {s t : State} (h : s.Agree t) : s = t ∨ (s.busy = false ∧ t.busy = false) := by
  obtain ⟨hbusy, -, -, -, -, -, heq⟩ := h
  cases hb : s.busy with
  | true => exact Or.inl (heq hb)
  | false => exact Or.inr ⟨rfl, hbusy ▸ hb⟩

theorem State.Agree.host_eq {s t : State} (h : s.Agree t) : s.host = t.host := by
  obtain ⟨-, -, -, -, hhost, -⟩ := h
  exact hhost

theorem State.Agree.setHost {s t : State} (h : s.Agree t) (moves : List HostMove) :
    (s.setHost moves).Agree (t.setHost moves) := by
  obtain ⟨hbusy, hmem, haw, hadm, -, hdraws, heq⟩ := h
  exact ⟨hbusy, hmem, haw, hadm, rfl, hdraws, fun busy => by rw [heq busy]⟩

theorem State.Agree.setMem_write {s t : State} (h : s.Agree t) (a : Nat) (b : Byte) :
    (s.setMem (s.mem.write a b)).Agree (t.setMem (t.mem.write a b)) := by
  obtain ⟨hbusy, hmem, haw, hadm, hhost, hdraws, heq⟩ := h
  exact ⟨hbusy, by simp [hmem], haw, hadm, hhost, hdraws, fun busy => by rw [heq busy]⟩

/-- A latch leaves nothing of the five registers. -/
theorem State.Agree.latch_eq {s t : State} (h : s.Agree t) (op : Op) (src dst : Nat) (pixels : BitVec 32) :
    s.latch op src dst pixels = t.latch op src dst pixels := by
  obtain ⟨-, hmem, haw, hadm, hhost, hdraws, -⟩ := h
  simp [State.latch, hmem, haw, hadm, hhost, hdraws]

theorem State.Agree.launch_eq {s t : State} (h : s.Agree t) (op : Op) (src dst : Nat) (pixels : BitVec 32) :
    launch op src dst pixels s = launch op src dst pixels t := by
  have hlatch := h.latch_eq op src dst pixels
  obtain ⟨-, -, haw, hadm, -⟩ := h
  rw [launch, launch, haw, hadm, hlatch]

/-- A command stands to agreeing states for the same step: idle, both launch it. -/
theorem State.Agree.exec_eq {s t : State} (h : s.Agree t) (i : Instr) : exec i s = exec i t := by
  obtain rfl | ⟨hs, ht⟩ := h.eq_or_idle
  · rfl
  · obtain ⟨op, dst, src, pixels, rfl⟩ := instr_eq_command i
    rw [exec_idle hs, exec_idle ht, h.launch_eq]

/-- A reset leaves nothing of the five registers. -/
theorem State.Agree.takeReset_eq {s t : State} (h : s.Agree t) : s.takeReset = t.takeReset := by
  obtain rfl | ⟨hs, ht⟩ := h.eq_or_idle
  · rfl
  · obtain ⟨-, hmem, haw, hadm, hhost, hdraws, -⟩ := h
    simp [State.takeReset_idle hs, State.takeReset_idle ht, State.resetTo, hmem, haw, hadm, hhost, hdraws]

/-- Whether the host has a move depends on the registers only with `BUSY = 1` (20_memory.md R68). -/
theorem State.Agree.grants_eq {s t : State} (h : s.Agree t) (m : HostMove) : s.grants m = t.grants m := by
  obtain rfl | ⟨hs, ht⟩ := h.eq_or_idle
  · rfl
  · obtain ⟨-, -, haw, -⟩ := h
    cases m <;> simp [State.grants, hs, ht, haw]

theorem OutcomesAgree.of_eq {o o' : Host.Outcome State Fault Refusal} (h : o = o') : OutcomesAgree o o' := by
  subst h
  cases o with
  | next s => exact .refl s
  | fault f => rfl
  | refused r => rfl

theorem OutcomesAgree.of_next {s : State} {o : Host.Outcome State Fault Refusal} (h : OutcomesAgree (.next s) o) :
    ∃ t, o = .next t ∧ s.Agree t := by
  cases o with
  | next t => exact ⟨t, rfl, h⟩
  | fault f => exact h.elim
  | refused r => exact h.elim

theorem OutcomesAgree.of_refused {r : Refusal} {o : Host.Outcome State Fault Refusal} (h : OutcomesAgree (.refused r) o) :
    o = .refused r := by
  cases o with
  | next t => exact h.elim
  | fault f => exact h.elim
  | refused r' => exact congrArg _ (Eq.symm h)

theorem OutcomesAgree.of_fault {f : Fault} {o : Host.Outcome State Fault Refusal} (h : OutcomesAgree (.fault f) o) :
    o = .fault f := by
  cases o with
  | next t => exact h.elim
  | fault f' => exact congrArg _ (Eq.symm h)
  | refused r => exact h.elim

theorem engineTurn_agree {s t : State} (h : s.Agree t) : OutcomesAgree (engineTurn s) (engineTurn t) := by
  obtain rfl | ⟨hs, ht⟩ := h.eq_or_idle
  · exact .of_eq rfl
  · rw [engineTurn_idle hs, engineTurn_idle ht]
    exact h

theorem State.Agree.acceptCommand_eq {s t : State} (h : s.Agree t) (cmd : CmdWord) :
    acceptCommand cmd s = acceptCommand cmd t := by
  unfold acceptCommand
  split
  · rfl
  · exact h.exec_eq _

theorem makeMove_agree {s t : State} (h : s.Agree t) (m : HostMove) :
    OutcomesAgree (makeMove m s) (makeMove m t) := by
  cases m with
  | command cmd => exact .of_eq (h.acceptCommand_eq cmd)
  | signals op dst src pixels => exact .of_eq (h.exec_eq _)
  | write a b => exact h.setMem_write a b
  | read a => exact h
  | reset => exact .of_eq (congrArg Host.Outcome.next h.takeReset_eq)
  | idle => exact engineTurn_agree h

/-- A host with no move left lets the engine go on. -/
theorem step_no_move {s : State} (h : s.host = []) : step s = engineTurn s := by
  simp [step, turn, h]

theorem step_agree {s t : State} (h : s.Agree t) : OutcomesAgree (step s) (step t) := by
  have hhost := h.host_eq
  cases hh : s.host with
  | nil =>
    rw [step_no_move hh, step_no_move (hhost ▸ hh)]
    exact engineTurn_agree h
  | cons m rest =>
    have ht := hhost ▸ hh
    cases hg : s.grants m with
    | true =>
      rw [step_granted hh hg, step_granted ht (h.grants_eq m ▸ hg)]
      exact makeMove_agree (h.setHost rest) m
    | false =>
      rw [step_waiting hh hg, step_waiting ht (h.grants_eq m ▸ hg)]
      exact engineTurn_agree h

/-- Settles O45: agreeing states give agreeing outcomes, read off for each kind of answer. -/
theorem idleRegistersAreDead : Obligations.IdleRegistersAreDead := by
  unfold Obligations.IdleRegistersAreDead
  intro s t h
  have hstep := step_agree h
  refine ⟨fun s' e => ?next, fun r e => ?refused, fun f e => ?fault⟩
  all_goals rw [e] at hstep
  case next => exact hstep.of_next
  case refused => exact hstep.of_refused
  case fault => exact hstep.of_fault

end Sys2Proof.Machine
end

section
/-!
PROOFS. The canonical form of memory is unique (log entry 4): the least listed address can be read off a memory's bytes, being
the least one that does not read as an unlisted byte, and so the lists agree cell by cell.
-/

namespace Sys2Proof.Machine

theorem Memory.read_head (a : Nat) (v : Byte) (m : Memory) : Memory.read ((a, v) :: m) a = v := by
  simp [Memory.read]

theorem Memory.read_tail {a c : Nat} (v : Byte) (m : Memory) (h : a ≠ c) : Memory.read ((a, v) :: m) c = m.read c := by
  simp [Memory.read, h]

theorem Memory.wfFrom_cell_iff {lo a : Nat} {v : Byte} {m : Memory} :
    Memory.wfFrom lo ((a, v) :: m) = true ↔ lo ≤ a ∧ v ≠ unlistedByte ∧ Memory.wfFrom (a + 1) m = true := by
  simp [Memory.wfFrom, and_assoc]

/-- A list that starts at `(b, w)` lists no address below `b`: what does not read as unlisted lies from `b` on. -/
theorem Memory.head_le_of_read_ne {lo a b : Nat} {w : Byte} {m : Memory} (h : Memory.wfFrom lo ((b, w) :: m) = true)
    (hr : Memory.read ((b, w) :: m) a ≠ unlistedByte) : b ≤ a := by
  obtain ⟨-, hw, hm⟩ := Memory.wfFrom_cell_iff.mp h
  have hb : Memory.wfFrom b ((b, w) :: m) = true := Memory.wfFrom_cell_iff.mpr ⟨Nat.le_refl b, hw, hm⟩
  by_contra hlt
  exact hr (Memory.read_of_lt hb (by omega))

/-- Two lists that start with the same cell and read alike have tails that read alike. -/
theorem Memory.tail_reads_alike {a : Nat} {v : Byte} {m m' : Memory} (h : Memory.wfFrom (a + 1) m = true)
    (h' : Memory.wfFrom (a + 1) m' = true) (hr : ∀ c, Memory.read ((a, v) :: m) c = Memory.read ((a, v) :: m') c) (c : Nat) :
    m.read c = m'.read c := by
  by_cases hc : a = c
  · rw [← hc, Memory.read_of_lt h (Nat.lt_succ_self a), Memory.read_of_lt h' (Nat.lt_succ_self a)]
  · have := hr c
    rwa [Memory.read_tail v m hc, Memory.read_tail v m' hc] at this

/-- Memories canonical from `lo` on that read alike are one list. -/
theorem Memory.eq_of_reads_alike {lo : Nat} {m m' : Memory} (h : Memory.wfFrom lo m = true)
    (h' : Memory.wfFrom lo m' = true) (hr : ∀ a, m.read a = m'.read a) : m = m' := by
  induction m generalizing lo m' with
  | nil =>
    cases m' with
    | nil => rfl
    | cons cell' rest' =>
      obtain ⟨b, w⟩ := cell'
      obtain ⟨-, hw, -⟩ := Memory.wfFrom_cell_iff.mp h'
      exact absurd ((hr b).trans (Memory.read_head b w rest')).symm hw
  | cons cell rest ih =>
    obtain ⟨a, v⟩ := cell
    obtain ⟨-, hv, hrest⟩ := Memory.wfFrom_cell_iff.mp h
    have hva : v = m'.read a := (Memory.read_head a v rest).symm.trans (hr a)
    cases m' with
    | nil => exact absurd hva hv
    | cons cell' rest' =>
      obtain ⟨b, w⟩ := cell'
      obtain ⟨-, hw, hrest'⟩ := Memory.wfFrom_cell_iff.mp h'
      have hwb : w = Memory.read ((a, v) :: rest) b := (Memory.read_head b w rest').symm.trans (hr b).symm
      have hab : a = b :=
        Nat.le_antisymm (Memory.head_le_of_read_ne h (hwb ▸ hw)) (Memory.head_le_of_read_ne h' (hva ▸ hv))
      subst hab
      have hvw : v = w := hva.trans (Memory.read_head a w rest')
      subst hvw
      rw [ih hrest hrest' (Memory.tail_reads_alike hrest hrest' hr)]

/-- Settles O51, by induction on the list: equal heads, and tails that read alike. -/
theorem equalMemoriesAreEqualData : Obligations.EqualMemoriesAreEqualData := by
  unfold Obligations.EqualMemoriesAreEqualData
  exact fun _ _ => Memory.eq_of_reads_alike

end Sys2Proof.Machine
end

section
/-!
PROOFS. Memory's canonical form (log entry 4) and its addresses below `2^AW` (20_memory.md R50): kept by each update of the state,
then by a command (`exec_next`) and by a step (`step_next`). What the engine writes lies in memory by the bounds of the pixel step
(44_engine_control.md R195), what a reset writes by the launch preconditions (R192 row 4), and what the host writes by its duty.
-/

namespace Sys2Proof.Machine

theorem State.takeReset_busy {s : State} (h : s.busy = true) : s.takeReset = s.resetTo s.abandonedMem (s.draws + 1) := by
  simp [State.takeReset, h]

theorem State.Canonical.setHost {s : State} (h : s.Canonical) (moves : List HostMove) : (s.setHost moves).Canonical :=
  ⟨h.mem, h.before, h.memWithin, h.beforeWithin⟩

theorem State.Canonical.setMem_write {s : State} (h : s.Canonical) {a : Nat} (ha : a < 2 ^ s.aw) (b : Byte) :
    (s.setMem (s.mem.write a b)).Canonical :=
  ⟨Memory.wf_write h.mem a b, h.before, Memory.within_write h.memWithin b ha, h.beforeWithin⟩

/-- The copy of memory that a launch makes is as canonical as memory itself. -/
theorem State.Canonical.latch {s : State} (h : s.Canonical) (op : Op) (src dst : Nat) (pixels : BitVec 32) :
    (s.latch op src dst pixels).Canonical :=
  ⟨h.mem, h.mem, h.memWithin, h.memWithin⟩

theorem State.Canonical.pixelDone {s : State} (h : s.Canonical) (hd : s.destAddr + 4 ≤ 2 ^ s.aw) (p : Pixel) :
    (s.pixelDone (s.mem.writePixel s.destAddr p)).Canonical :=
  ⟨Memory.wf_writePixel h.mem _ p, h.before, Memory.within_writePixel h.memWithin p hd, h.beforeWithin⟩

theorem State.Canonical.complete {s : State} (h : s.Canonical) : s.complete.Canonical :=
  ⟨h.mem, h.before, h.memWithin, h.beforeWithin⟩

/-- A reset forgets the copy, so only the memory it leaves matters. -/
theorem State.resetTo_canonical {s : State} {m : Memory} (hwf : m.wf = true) (hin : m.within (2 ^ s.aw) = true) (k : Nat) :
    (s.resetTo m k).Canonical :=
  ⟨hwf, rfl, hin, rfl⟩

/-- With `BUSY = 1` a reset fills `D` (70_reset_and_hazards.md R252), which lies in memory by launch precondition 4. -/
theorem State.Canonical.takeReset {s : State} (h : s.Canonical) (hl : s.Legal) : s.takeReset.Canonical := by
  cases hb : s.busy with
  | false =>
    rw [State.takeReset_idle hb]
    exact State.resetTo_canonical h.mem h.memWithin _
  | true =>
    rw [State.takeReset_busy hb]
    exact State.resetTo_canonical (Memory.wf_fill h.mem) (Memory.within_fill h.memWithin (hl.dstFits hb)) _

theorem exec_keeps_canonical {i : Instr} {s t : State} (hs : s.Canonical) (h : exec i s = .next t) : t.Canonical := by
  rcases exec_next h with ⟨-, op, dst, src, pixels, -, -, rfl⟩ | ⟨-, -, -, hd, rfl⟩ | ⟨-, -, rfl⟩
  · exact hs.latch op src dst pixels
  · exact hs.pixelDone hd _
  · exact hs.complete

theorem step_keeps_canonical {s t : State} (hl : s.Legal) (hs : s.Canonical) (h : step s = .next t) : t.Canonical := by
  obtain ⟨moves, ⟨-, rfl⟩ | ⟨i, e⟩ | ⟨a, b, rest, -, ha, -, -, rfl⟩ | ⟨a, rest, -, rfl⟩ | ⟨rest, -, rfl⟩⟩ := step_next h
  · exact hs.setHost moves
  · exact exec_keeps_canonical (hs.setHost moves) e
  · exact (hs.setHost moves).setMem_write ha b
  · exact hs.setHost moves
  · exact (hs.setHost moves).takeReset (hl.setHost moves)

/-- Settles O42, by what a step can have done: every byte it writes lies in memory, and every write keeps the form. -/
theorem stepKeepsMemoryCanonical : Obligations.StepKeepsMemoryCanonical := by
  unfold Obligations.StepKeepsMemoryCanonical
  exact fun _ _ => step_keeps_canonical

end Sys2Proof.Machine
end

section
/-!
PROOFS. Who writes which byte (20_memory.md R55, R56, R68): what is no write of the host leaves an idle machine's memory alone, and
a busy machine's outside `D`; and what the host's own accesses do.
-/

namespace Sys2Proof.Machine

/-- From `s` to `t` no byte changes outside the destination region of the command in progress, and none when there is no
command (20_memory.md R55). -/
def State.WritesOnlyDest (s t : State) : Prop :=
  (s.busy = false → t.mem = s.mem) ∧
  (s.busy = true → ∀ a, s.inDest a = false → t.mem.read a = s.mem.read a)

theorem State.WritesOnlyDest.of_mem_eq {s t : State} (h : t.mem = s.mem) : s.WritesOnlyDest t :=
  ⟨fun _ => h, fun _ _ _ => by rw [h]⟩

/-- Below `N` the pixel at `DST + 4*IDX` lies in `D`. -/
theorem State.inDest_of_pixel {s : State} {a : Nat} (hi : s.idx.toNat < s.n.toNat)
    (ha : s.destAddr ≤ a ∧ a < s.destAddr + 4) : s.inDest a = true := by
  simp only [State.destAddr, pixelAddr] at ha
  exact inRegion_iff.mpr (by omega)

/-- Below `N` the pixel at `SRC + 4*IDX` lies in `S`. -/
theorem State.inSource_of_pixel {s : State} {a : Nat} (hi : s.idx.toNat < s.n.toNat)
    (ha : s.sourceAddr ≤ a ∧ a < s.sourceAddr + 4) : s.inSource a = true := by
  simp only [State.sourceAddr, pixelAddr] at ha
  exact inRegion_iff.mpr (by omega)

theorem State.pixelDone_writesOnlyDest {s : State} (hb : s.busy = true) (hi : s.idx.toNat < s.n.toNat) (p : Pixel) :
    s.WritesOnlyDest (s.pixelDone (s.mem.writePixel s.destAddr p)) := by
  refine ⟨fun idle => absurd idle (by simp [hb]), fun _ a ha => Memory.read_writePixel_other s.mem p fun hpixel => ?_⟩
  exact absurd (State.inDest_of_pixel hi hpixel) (by simp [ha])

theorem exec_writesOnlyDest {i : Instr} {s t : State} (h : exec i s = .next t) : s.WritesOnlyDest t := by
  rcases exec_next h with ⟨-, op, dst, src, pixels, -, -, rfl⟩ | ⟨hb, hi, -, -, rfl⟩ | ⟨-, -, rfl⟩
  · exact .of_mem_eq rfl
  · exact State.pixelDone_writesOnlyDest hb hi _
  · exact .of_mem_eq rfl

/-- The bytes a reset writes are those of `D` (70_reset_and_hazards.md R252). -/
theorem State.takeReset_writesOnlyDest (s : State) : s.WritesOnlyDest s.takeReset := by
  refine ⟨fun hb => ?idle, fun hb a ha => ?busy⟩
  case idle => rw [State.takeReset_idle hb, State.resetTo_mem]
  case busy =>
    rw [State.takeReset_busy hb, State.resetTo_mem]
    exact Memory.read_fill_other (inRegion_false_iff.mp ha)

theorem step_writesOnlyDest {s t : State} (h : step s = .next t)
    (noWrite : ∀ a b rest, s.host = .write a b :: rest → s.grants (.write a b) = false) : s.WritesOnlyDest t := by
  obtain ⟨moves, ⟨-, rfl⟩ | ⟨i, e⟩ | ⟨a, b, rest, hh, -, -, hg, -⟩ | ⟨a, rest, -, rfl⟩ | ⟨rest, -, rfl⟩⟩ := step_next h
  · exact .of_mem_eq rfl
  · exact exec_writesOnlyDest (s := s.setHost moves) e
  · exact absurd (hg.symm.trans (noWrite a b rest hh)) (by decide)
  · exact .of_mem_eq rfl
  · exact (s.setHost moves).takeReset_writesOnlyDest

/-- Settles O47, by what a step can have done: a launch, a completion, a read and an idle turn write no byte, a pixel step and a
reset write in `D` alone. -/
theorem engineWritesOnlyDestination : Obligations.EngineWritesOnlyDestination := by
  unfold Obligations.EngineWritesOnlyDestination
  intro s t h noWrite
  obtain ⟨idle, busy⟩ := step_writesOnlyDest h noWrite
  exact ⟨idle, fun hb _ => busy hb⟩

/-- While a command is in progress, a step whose host's next move waits is the command's (20_memory.md R66). -/
theorem step_waiting_busy {s : State} {m : HostMove} {rest : List HostMove} (hb : s.busy = true)
    (hh : s.host = m :: rest) (hg : ¬ s.grants m = true) : step s = exec s.current s := by
  rw [step_waiting hh (Bool.not_eq_true _ ▸ hg), engineTurn_busy hb, exec_busy hb]

/-- Settles O48: a move that is granted is made, and one that is not waits; `grants_write` and `grants_read` say when. -/
theorem hostAccessesMemory : Obligations.HostAccessesMemory := by
  unfold Obligations.HostAccessesMemory
  refine fun s a rest ha => ⟨fun b hh hwf => ⟨fun inUse => ?writeWaits, fun free => ?writes⟩,
    fun hh => ⟨fun inUse => ?readWaits, fun free => ?reads⟩⟩
  case writeWaits => exact step_waiting_busy inUse.1 hh fun hg => ((grants_write s a b).mp hg).2 inUse
  case writes =>
    have hstep := step_granted hh ((grants_write s a b).mpr ⟨ha, free⟩)
    exact ⟨_, hstep, Memory.read_write_same hwf a b, fun c hc => Memory.read_write_other s.mem b hc, rfl⟩
  case readWaits => exact step_waiting_busy inUse.1 hh fun hg => ((grants_read s a).mp hg).2 inUse
  case reads => exact step_granted hh ((grants_read s a).mpr ⟨ha, free⟩)

end Sys2Proof.Machine
end

section
/-!
PROOFS. The run of one command (44_engine_control.md R202), with a host that waits. While it goes on, the bytes below the next
destination pixel are those of `Run`, the others those of the launch (`State.RunSoFar`). A pixel step keeps this because its source
pixel is still the launch's: `S` and `D` are disjoint, or `DST = SRC` and the pixel is not yet written (20_memory.md R54, R60).
-/

namespace Sys2Proof.Machine

/-! ### The bytes of `Run` -/

theorem runByte_outside {dst count a : Nat} (h : ¬ (dst ≤ a ∧ a < dst + 4 * count)) (op : Op) (src : Nat) (m : Memory) :
    runByte op src dst count m a = m.read a := by
  rw [runByte, inRegion_false_iff.mpr h]
  rfl

/-- Byte `k` of the destination is the same wherever the destination lies. -/
theorem runByte_dest {count k : Nat} (h : k < 4 * count) (op : Op) (src dst : Nat) (m : Memory) :
    runByte op src dst count m (dst + k) = (convert op (m.readPixel (pixelAddr src (k / 4)))).byte (k % 4) := by
  rw [runByte, if_pos (inRegion_iff.mpr (by omega)), Nat.add_sub_cancel_left]

/-- The four bytes of destination pixel `i` are those of the converted source pixel `i`. -/
theorem runByte_pixel {dst count i a : Nat} (hi : i < count) (ha : pixelAddr dst i ≤ a ∧ a < pixelAddr dst i + 4) (op : Op)
    (src : Nat) (m : Memory) :
    runByte op src dst count m a = (convert op (m.readPixel (pixelAddr src i))).byte (a - pixelAddr dst i) := by
  unfold pixelAddr at ha
  obtain ⟨k, rfl⟩ : ∃ k, a = dst + (4 * i + k) := ⟨a - (dst + 4 * i), by omega⟩
  have hk : k < 4 := by omega
  rw [runByte_dest (by omega), show (4 * i + k) / 4 = i by omega, show (4 * i + k) % 4 = k by omega,
    show dst + (4 * i + k) - pixelAddr dst i = k by unfold pixelAddr; omega]

theorem Memory.readPixel_congr {m m' : Memory} {a : Nat} (h : ∀ c, a ≤ c ∧ c < a + 4 → m.read c = m'.read c) :
    m.readPixel a = m'.readPixel a := by
  simp only [Memory.readPixel, h a (by omega), h (a + 1) (by omega), h (a + 2) (by omega), h (a + 3) (by omega)]

/-! ### The engine's steps in a legal state -/

/-- Both pixels of the next pixel step lie in memory (44_engine_control.md R195). -/
theorem State.Legal.pixels_in_memory {s : State} (h : s.Legal) (hb : s.busy = true) (hi : s.idx.toNat < s.n.toNat) :
    s.sourceAddr + 4 ≤ 2 ^ s.aw ∧ s.destAddr + 4 ≤ 2 ^ s.aw := by
  have hsrc := h.srcFits hb
  have hdst := h.dstFits hb
  unfold State.sourceAddr State.destAddr pixelAddr
  omega

theorem engineStep_pixel {s : State} (h : s.Legal) (hb : s.busy = true) (hi : s.idx.toNat < s.n.toNat) :
    engineStep s =
      .next (s.pixelDone (s.mem.writePixel s.destAddr (convert s.op (s.mem.readPixel s.sourceAddr)))) := by
  obtain ⟨hsrc, hdst⟩ := h.pixels_in_memory hb hi
  rw [engineStep, if_pos hi, pixelStep_next hsrc hdst]

theorem engineStep_completion {s : State} (hi : s.idx.toNat = s.n.toNat) : engineStep s = .next s.complete := by
  rw [engineStep, if_neg (by omega), if_pos hi]

theorem State.pixelDone_destAddr {s : State} (hi : s.idx.toNat < s.n.toNat) (m : Memory) :
    (s.pixelDone m).destAddr = s.destAddr + 4 := by
  simp only [State.destAddr, pixelAddr, State.pixelDone_dst, State.pixelDone_idx, idx_succ_toNat hi]
  omega

/-! ### How far the run has come -/

/-- Every byte of memory, as far as the run of the command has come. -/
def State.RunSoFar (s : State) : Prop :=
  ∀ a, s.mem.read a =
    if a < s.destAddr then runByte s.op s.src s.dst s.n.toNat s.before a else s.before.read a

theorem State.latch_runSoFar (s : State) (op : Op) (src dst : Nat) (pixels : BitVec 32) :
    (s.latch op src dst pixels).RunSoFar := by
  intro a
  split
  · next ha => exact (runByte_outside (fun hd => absurd ha (Nat.not_lt.mpr hd.1)) op src s.mem).symm
  · rfl

/-- With `IDX = N` the run has written every byte that it writes. -/
theorem State.RunSoFar.read_of_completed {s : State} (h : s.RunSoFar) (hi : s.idx.toNat = s.n.toNat) (a : Nat) :
    s.mem.read a = runByte s.op s.src s.dst s.n.toNat s.before a := by
  rw [h a]
  split
  · rfl
  · next ha =>
    simp only [State.destAddr, pixelAddr, hi] at ha
    exact (runByte_outside (fun hd => ha hd.2) s.op s.src s.before).symm

/-- The source pixel of the next pixel step holds what it held at the launch. -/
theorem State.RunSoFar.sourcePixel_eq {s : State} (h : s.RunSoFar) (hl : s.Legal) (hb : s.busy = true)
    (hi : s.idx.toNat < s.n.toNat) : s.mem.readPixel s.sourceAddr = s.before.readPixel s.sourceAddr := by
  refine Memory.readPixel_congr fun c hc => ?_
  rw [h c]
  rcases hl.overlap hb with disjoint | inPlace
  · have outside : ¬ s.inDest c = true := fun hd => disjoint c ⟨State.inSource_of_pixel hi hc, hd⟩
    rw [runByte_outside (fun hd => outside (inRegion_iff.mpr hd)), ite_self]
  · have unwritten : ¬ c < s.destAddr := by
      rw [State.destAddr, inPlace]
      exact Nat.not_lt.mpr hc.1
    rw [if_neg unwritten]

/-- A pixel step whose source pixel is still the launch's writes the bytes of `Run`. -/
theorem State.read_convertedPixel {s : State} (hwf : s.mem.wf = true) (hi : s.idx.toNat < s.n.toNat)
    (hsrc : s.mem.readPixel s.sourceAddr = s.before.readPixel s.sourceAddr) {a : Nat}
    (ha : s.destAddr ≤ a ∧ a < s.destAddr + 4) :
    (s.mem.writePixel s.destAddr (convert s.op (s.mem.readPixel s.sourceAddr))).read a =
      runByte s.op s.src s.dst s.n.toNat s.before a := by
  rw [Memory.read_writePixel_same hwf _ ha, hsrc]
  exact (runByte_pixel hi ha s.op s.src s.before).symm

theorem State.RunSoFar.pixelDone {s : State} (h : s.RunSoFar) (hwf : s.mem.wf = true) (hl : s.Legal) (hb : s.busy = true)
    (hi : s.idx.toNat < s.n.toNat) :
    (s.pixelDone (s.mem.writePixel s.destAddr (convert s.op (s.mem.readPixel s.sourceAddr)))).RunSoFar := by
  intro a
  rw [State.pixelDone_destAddr hi, State.pixelDone_mem]
  by_cases ha : s.destAddr ≤ a ∧ a < s.destAddr + 4
  · rw [if_pos ha.2]
    exact State.read_convertedPixel hwf hi (h.sourcePixel_eq hl hb hi) ha
  · rw [Memory.read_writePixel_other _ _ ha, h a]
    have unmoved : a < s.destAddr + 4 ↔ a < s.destAddr := by omega
    simp only [unmoved]
    rfl

/-! ### The whole run -/

/-- A command is in progress, and the host leaves the engine to itself. -/
structure State.Running (s : State) : Prop where
  busy : s.busy = true
  waits : s.hostWaits = true
  legal : s.Legal
  memWf : s.mem.wf = true
  soFar : s.RunSoFar

theorem LaunchOk.latch_running {s : State} {dst src : Nat} {pixels : BitVec 32}
    (ok : LaunchOk s.aw s.admission dst src pixels) (hw : s.hostWaits = true) (hwf : s.mem.wf = true) (op : Op) :
    (s.latch op src dst pixels).Running :=
  ⟨rfl, hw, ok.latch_legal op, hwf, s.latch_runSoFar op src dst pixels⟩

theorem State.Running.step_pixel {s : State} (h : s.Running) (hi : s.idx.toNat < s.n.toNat) :
    ∃ m, step s = .next (s.pixelDone m) ∧ (s.pixelDone m).Running := by
  refine ⟨_, (step_busy_waiting h.busy h.waits).trans (engineStep_pixel h.legal h.busy hi), ?_⟩
  exact {
    busy := h.busy
    waits := h.waits
    legal := h.legal.pixelDone hi _
    memWf := Memory.wf_writePixel h.memWf _ _
    soFar := h.soFar.pixelDone h.memWf h.legal h.busy hi }

theorem State.Running.step_completion {s : State} (h : s.Running) (hi : s.idx.toNat = s.n.toNat) :
    step s = .next s.complete :=
  (step_busy_waiting h.busy h.waits).trans (engineStep_completion hi)

/-- With `k` pixels to go, `k` pixel steps and the completion end the run, and memory is that of `Run`. -/
theorem State.Running.completes {k : Nat} {s : State} (h : s.Running) (hk : s.idx.toNat + k = s.n.toNat) :
    ∃ u, steps (k + 1) s = .next u ∧ u.busy = false ∧
      ∀ a, u.mem.read a = runByte s.op s.src s.dst s.n.toNat s.before a := by
  induction k generalizing s with
  | zero =>
    have hstep : steps 1 s = .next s.complete := by rw [steps_of_next (h.step_completion hk), steps_zero]
    exact ⟨s.complete, hstep, rfl, h.soFar.read_of_completed hk⟩
  | succ k ih =>
    have hi : s.idx.toNat < s.n.toNat := by omega
    obtain ⟨m, hstep, hrun⟩ := h.step_pixel hi
    have hidx : (s.pixelDone m).idx.toNat + k = (s.pixelDone m).n.toNat := by
      rw [State.pixelDone_idx, State.pixelDone_n, idx_succ_toNat hi]
      omega
    rw [steps_of_next hstep]
    exact ih hrun hidx

theorem runCommand_of_launchOk {op : Op} {dst src : Nat} {pixels : BitVec 32} {s : State} (hb : s.busy = false)
    (ok : LaunchOk s.aw s.admission dst src pixels) :
    runCommand op dst src pixels s = steps (pixels.toNat + 1) (s.latch op src dst pixels) := by
  rw [runCommand, exec_idle hb, launch_next ok]

/-- A command that meets the launch preconditions completes, and memory is that of `Run` (44_engine_control.md R202). -/
theorem runCommand_completes {op : Op} {dst src : Nat} {pixels : BitVec 32} {s : State} (hb : s.busy = false)
    (hw : s.hostWaits = true) (hwf : s.mem.wf = true) (ok : LaunchOk s.aw s.admission dst src pixels) :
    ∃ u, runCommand op dst src pixels s = .next u ∧ u.busy = false ∧
      ∀ a, u.mem.read a = runByte op src dst pixels.toNat s.mem a := by
  have hn : (s.latch op src dst pixels).n.toNat = pixels.toNat := latched_count ok.count
  rw [runCommand_of_launchOk hb ok, ← hn]
  exact (ok.latch_running hw hwf op).completes (Nat.zero_add _)

/-- Where a command is launched, the one in place is too. -/
theorem LaunchOk.inPlace {aw : Nat} {admission : List Region} {dst src : Nat} {pixels : BitVec 32}
    (ok : LaunchOk aw admission dst src pixels) : LaunchOk aw admission src src pixels where
  srcAddr := ok.srcAddr
  dstAddr := ok.srcAddr
  count := ok.count
  srcFits := ok.srcFits
  dstFits := ok.srcFits
  overlap := Or.inr rfl
  admitted := fun a ha => ok.admitted a (Or.inl (or_self_iff.mp ha))

/-- Settles O38: both commands complete with the memory of `Run`, whose byte `k` of the destination depends on where the source
lies and not on where the destination does. -/
theorem inPlaceEqualsOutOfPlace : Obligations.InPlaceEqualsOutOfPlace := by
  unfold Obligations.InPlaceEqualsOutOfPlace
  intro s op dst src pixels hb hw hwf ok
  obtain ⟨t, ht, -, outOfPlace⟩ := runCommand_completes (op := op) hb hw hwf ok
  obtain ⟨u, hu, -, inPlace⟩ := runCommand_completes (op := op) hb hw hwf ok.inPlace
  refine ⟨t, u, ht, hu, fun k hk => ?_⟩
  calc u.mem.read (src + k) = runByte op src src pixels.toNat s.mem (src + k) := inPlace _
    _ = runByte op src dst pixels.toNat s.mem (dst + k) := by rw [runByte_dest hk, runByte_dest hk]
    _ = t.mem.read (dst + k) := (outOfPlace _).symm

end Sys2Proof.Machine
end

section
/-!
PROOFS. The packed descriptor read and written (30_encoding.md R85, R86, R90). First the fields and the packing, which undo
each other; then what the decoder answers, one equivalence per answer; the four statements are assembled from these.
-/

namespace Sys2Proof

/-! ### The fields and the packing -/

theorem cmdSrc_packCmd (op : BitVec 1) (dst src pixels : BitVec 32) : cmdSrc (packCmd op dst src pixels) = src := by
  rw [cmdSrc, packCmd, BitVec.extractLsb'_append_eq_of_le (by decide), BitVec.extractLsb'_append_eq_of_le (by decide),
    BitVec.extractLsb'_append_eq_of_add_le (by decide)]
  exact BitVec.extractLsb'_eq_self

theorem cmdDst_packCmd (op : BitVec 1) (dst src pixels : BitVec 32) : cmdDst (packCmd op dst src pixels) = dst := by
  rw [cmdDst, packCmd, BitVec.extractLsb'_append_eq_of_le (by decide), BitVec.extractLsb'_append_eq_of_le (by decide),
    BitVec.extractLsb'_append_eq_of_le (by decide), BitVec.extractLsb'_append_eq_of_add_le (by decide)]
  exact BitVec.extractLsb'_eq_self

theorem cmdPixels_packCmd (op : BitVec 1) (dst src pixels : BitVec 32) :
    cmdPixels (packCmd op dst src pixels) = pixels := by
  rw [cmdPixels, packCmd, BitVec.extractLsb'_append_eq_of_le (by decide), BitVec.extractLsb'_append_eq_of_le (by decide),
    BitVec.extractLsb'_append_eq_of_le (by decide), BitVec.extractLsb'_append_eq_of_le (by decide)]
  exact BitVec.extractLsb'_eq_self

/-- The five fields lie end to end and cover the descriptor: with the reserved one 0, packing the other four gives it back. -/
theorem packCmd_fields {cmd : CmdWord} (h : cmdReserved cmd = 0#31) :
    packCmd (cmdOp cmd) (cmdDst cmd) (cmdSrc cmd) (cmdPixels cmd) = cmd := by
  rw [packCmd, ← h, cmdPixels, cmdDst, cmdSrc, cmdReserved, cmdOp]
  simp only [BitVec.extractLsb'_append_extractLsb'_eq_extractLsb']
  exact BitVec.extractLsb'_eq_self

/-- Bit `j` of the reserved field is bit `j + 1` of the descriptor. -/
theorem cmdReserved_getLsbD {cmd : CmdWord} {j : Nat} (hj : j < 31) :
    (cmdReserved cmd).getLsbD j = cmd.getLsbD (1 + j) := by
  simp [cmdReserved, hj]

theorem cmdReserved_ne_zero_iff (cmd : CmdWord) :
    cmdReserved cmd ≠ 0#31 ↔ ∃ k, 1 ≤ k ∧ k ≤ 31 ∧ cmd.getLsbD k = true := by
  constructor
  · intro h
    by_contra hnone
    refine h (BitVec.eq_of_getLsbD_eq fun j hj => ?_)
    rw [cmdReserved_getLsbD hj, BitVec.getLsbD_zero]
    exact Bool.eq_false_iff.mpr fun hset => hnone ⟨1 + j, by omega, by omega, hset⟩
  · rintro ⟨k, hlow, hhigh, hset⟩ hzero
    have hbit := cmdReserved_getLsbD (cmd := cmd) (j := k - 1) (by omega)
    rw [hzero, BitVec.getLsbD_zero, Nat.add_sub_cancel' hlow, hset] at hbit
    exact Bool.noConfusion hbit

/-! ### The encoder and the decoder -/

theorem encode_eq_packCmd (i : Instr) :
    encode i = packCmd (Laws.OpcodeBits.opOf i) (BitVec.ofNat 32 i.dst) (BitVec.ofNat 32 i.src) i.pixels := by
  cases i <;> rfl

/-- A command decoded is one whose operands are the fields, of a descriptor with the reserved field 0. -/
theorem decode_eq_ok_iff (cmd : CmdWord) (i : Instr) :
    decode cmd = .ok i ↔ cmdReserved cmd = 0#31 ∧ cmdOp cmd = Laws.OpcodeBits.opOf i ∧ (cmdDst cmd).toNat = i.dst ∧
      (cmdSrc cmd).toNat = i.src ∧ cmdPixels cmd = i.pixels := by
  unfold decode
  split
  case isTrue hres => simp [hres]
  case isFalse hres =>
    have hres : cmdReserved cmd = 0#31 := not_not.mp hres
    rcases BitVec.eq_zero_or_eq_one (cmdOp cmd) with hop | hop
    all_goals cases i <;> simp [hres, hop, Laws.OpcodeBits.opOf, Instr.dst, Instr.src, Instr.pixels]

theorem decode_eq_reservedBits_iff (cmd : CmdWord) : decode cmd = .error .reservedBits ↔ cmdReserved cmd ≠ 0#31 := by
  unfold decode
  split
  case isTrue hres => simp [hres]
  case isFalse hres => split <;> simp [hres]

/-! ### The statements -/

/-- Settles O19: the decoder reads back from the packed form the fields that the encoder put there; an address of 32 bits
survives the 32-bit field. -/
theorem decodeInvertsEncode : Obligations.DecodeInvertsEncode := by
  unfold Obligations.DecodeInvertsEncode
  intro i hfits
  obtain ⟨hdst, hsrc⟩ := (Instr.fits_iff Config.packedAW i).mp hfits
  rw [decode_eq_ok_iff, encode_eq_packCmd]
  refine ⟨cmdReserved_packCmd _ _ _ _, cmdOp_packCmd _ _ _ _, ?dst, ?src, cmdPixels_packCmd _ _ _ _⟩
  case dst => exact (congrArg BitVec.toNat (cmdDst_packCmd _ _ _ _)).trans (Nat.mod_eq_of_lt hdst)
  case src => exact (congrArg BitVec.toNat (cmdSrc_packCmd _ _ _ _)).trans (Nat.mod_eq_of_lt hsrc)

/-- Settles O20: the operands are the fields, and the fields packed again are the descriptor. -/
theorem encodeInvertsDecode : Obligations.EncodeInvertsDecode := by
  unfold Obligations.EncodeInvertsDecode
  intro cmd i h
  obtain ⟨hres, hop, hdst, hsrc, hpixels⟩ := (decode_eq_ok_iff cmd i).mp h
  constructor
  · calc encode i = packCmd (cmdOp cmd) (cmdDst cmd) (cmdSrc cmd) (cmdPixels cmd) := by
          rw [encode_eq_packCmd, ← hop, ← hdst, ← hsrc, ← hpixels, BitVec.ofNat_toNat, BitVec.ofNat_toNat,
            BitVec.setWidth_eq, BitVec.setWidth_eq]
      _ = cmd := packCmd_fields hres
  · rw [Instr.fits_iff, ← hdst, ← hsrc]
    exact ⟨(cmdDst cmd).isLt, (cmdSrc cmd).isLt⟩

/-- Settles O21: the decoder refuses when the reserved field is not 0, which is a bit of it set. -/
theorem reservedBitsSpellNoCommand : Obligations.ReservedBitsSpellNoCommand := by
  unfold Obligations.ReservedBitsSpellNoCommand
  exact fun cmd => (decode_eq_reservedBits_iff cmd).trans (cmdReserved_ne_zero_iff cmd)

/-- Settles O22: the decoder is evaluated on each written word. -/
theorem writtenDescriptorsDecode : Obligations.WrittenDescriptorsDecode := by
  unfold Obligations.WrittenDescriptorsDecode
  decide

end Sys2Proof
end

section
/-!
PROOFS. The forward tables and what they give the forward pixel function (40_forward_tables.md R113 to R127). The listings
are evaluated against the derivation once, in `forward_listing`; from there on an entry is `forwardEntry` of its role's
numerator, so that its order and its rounding error are those of `roundTH`. The sums inherit the error, and the statements on
their values follow from it for all inputs, with no enumeration of pixels.
-/

namespace Sys2Proof.Machine

/-! ### The rounding, its order and its error -/

theorem roundTH_mono {d : Int} (hd : 0 < d) {m n : Int} (h : m ≤ n) : roundTH m d ≤ roundTH n d :=
  Int.tdiv_le_tdiv (by omega) (by omega)

/-- `roundTH N D` stays within `-1/2` and `3/2` of `N / D`: the remainder of a truncating division by `2D` is less than `2D`
in size, and one half is added before it is cut off. -/
theorem roundTH_error (n : Int) {d : Int} (hd : 0 < d) :
    -d < 2 * (d * roundTH n d) - 2 * n ∧ 2 * (d * roundTH n d) - 2 * n < 3 * d := by
  have hdiv : 2 * d * roundTH n d + Int.tmod (2 * n + d) (2 * d) = 2 * n + d := Int.mul_tdiv_add_tmod _ _
  have hlow : -(2 * d) < Int.tmod (2 * n + d) (2 * d) := Int.lt_tmod_of_pos _ (by omega)
  have hhigh : Int.tmod (2 * n + d) (2 * d) < 2 * d := Int.tmod_lt_of_pos _ (by omega)
  rw [Int.mul_assoc] at hdiv
  omega

/-! ### The forward derivation -/

theorem forwardEntry_eq_roundTH (n : Int) (v : Byte) : forwardEntry n v = roundTH (n * v.toNat * 64) 100000 := rfl

theorem forwardEntry_zero (n : Int) : forwardEntry n 0 = 0 := by
  simp [forwardEntry_eq_roundTH, roundTH, tdiv]

theorem forwardEntry_mono {n : Int} (hn : 0 ≤ n) {v w : Byte} (h : v ≤ w) : forwardEntry n v ≤ forwardEntry n w := by
  have hvw : (v.toNat : Int) ≤ w.toNat := Int.ofNat_le.mpr h
  have hmul := Int.mul_le_mul_of_nonneg_left hvw hn
  exact roundTH_mono (by decide) (Int.mul_le_mul_of_nonneg_right hmul (by decide))

theorem forwardEntry_antitone {n : Int} (hn : n ≤ 0) {v w : Byte} (h : v ≤ w) : forwardEntry n w ≤ forwardEntry n v := by
  have hvw : (v.toNat : Int) ≤ w.toNat := Int.ofNat_le.mpr h
  have hmul := Int.mul_le_mul_of_nonpos_left hn hvw
  exact roundTH_mono (by decide) (Int.mul_le_mul_of_nonneg_right hmul (by decide))

theorem forwardEntry_error (n : Int) (v : Byte) :
    -50000 < 100000 * forwardEntry n v - 64 * (n * v.toNat) ∧
      100000 * forwardEntry n v - 64 * (n * v.toNat) < 150000 := by
  have herror := roundTH_error (n * v.toNat * 64) (d := 100000) (by decide)
  rw [← forwardEntry_eq_roundTH] at herror
  omega

/-- One half of the channel value, scaled by 64, is an integer: nothing is rounded (40_forward_tables.md R124). -/
theorem forwardEntry_half (v : Byte) : forwardEntry 50000 v = 32 * v.toNat := by
  rw [forwardEntry_eq_roundTH, roundTH_of_nonneg (by decide) (by omega)]
  omega

/-! ### The listings -/

/-- The numerator over 100000 of each role's coefficient (40_forward_tables.md R111, 42_reverse_tables.md R151). -/
def numerator : Role → Int
  | .yR => 29900
  | .yG => 58700
  | .yB => 11400
  | .cbR => -16874
  | .cbG => -33126
  | .cbB => 50000
  | .crR => 50000
  | .crG => -41869
  | .crB => -8131
  | .rCr => 140200
  | .gCb => -34414
  | .gCr => -71414
  | .bCb => 177200

/-- The nine roles of the forward direction (R111). -/
def forwardRoles : List Role := [.yR, .yG, .yB, .cbR, .cbG, .cbB, .crR, .crG, .crB]

/-- A table listed in index order as the values of a function holds, at each index, the function's value. -/
theorem Table.entry_of_listing {t : Table} {f : Byte → Int}
    (h : t.entries = (List.range 256).map fun k => f (BitVec.ofNat 8 k)) (v : Byte) : t.entry v = f v := by
  simp [Table.entry, h]

/-- The nine listings, evaluated: the one place where the listed values are compared with the derivation (R113). -/
theorem forward_listing : ∀ r ∈ forwardRoles,
    (tbl r).entries = (List.range 256).map fun k => forwardEntry (numerator r) (BitVec.ofNat 8 k) := by
  decide +kernel

theorem entry_eq_forwardEntry {r : Role} (hr : r ∈ forwardRoles) (v : Byte) :
    (tbl r).entry v = forwardEntry (numerator r) v :=
  Table.entry_of_listing (forward_listing r hr) v

/-- How far an entry is from the exact product that R113 rounds, in units of 1/100000. -/
theorem forward_entry_error {r : Role} (hr : r ∈ forwardRoles) (v : Byte) :
    -50000 < 100000 * (tbl r).entry v - 64 * (numerator r * v.toNat) ∧
      100000 * (tbl r).entry v - 64 * (numerator r * v.toNat) < 150000 := by
  rw [entry_eq_forwardEntry hr]
  exact forwardEntry_error (numerator r) v

theorem entry_cbB (v : Byte) : (tbl .cbB).entry v = 32 * v.toNat :=
  (entry_eq_forwardEntry (by decide) v).trans (forwardEntry_half v)

theorem entry_crR (v : Byte) : (tbl .crR).entry v = 32 * v.toNat :=
  (entry_eq_forwardEntry (by decide) v).trans (forwardEntry_half v)

/-- Every forward entry lies between the least and the greatest end of the nine ranges of R125 (c). -/
theorem forward_entry_between {r : Role} (hr : r ∈ forwardRoles) (v : Byte) :
    -6832 ≤ (tbl r).entry v ∧ (tbl r).entry v ≤ 9580 := by
  have hranges := forward_ranges v
  simp only [forwardRoles, List.mem_cons, List.not_mem_nil, or_false] at hr
  rcases hr with rfl | rfl | rfl | rfl | rfl | rfl | rfl | rfl | rfl
  all_goals omega

/-! ### The sums and their error

A sum stands for 64 times the unrounded reference of R110, without its bias; the errors are in units of 1/100000. -/

theorem lumaSum_error (r g b : Byte) :
    -150000 < 100000 * lumaSum r g b - 64 * (29900 * r.toNat + 58700 * g.toNat + 11400 * b.toNat) ∧
      100000 * lumaSum r g b - 64 * (29900 * r.toNat + 58700 * g.toNat + 11400 * b.toNat) < 450000 := by
  have hr := forward_entry_error (r := .yR) (by decide) r
  have hg := forward_entry_error (r := .yG) (by decide) g
  have hb := forward_entry_error (r := .yB) (by decide) b
  simp only [numerator] at hr hg hb
  rw [lumaSum]
  omega

/-- The entry of B is exact, so two of the three tables err (R124). -/
theorem cbSum_error (r g b : Byte) :
    -100000 < 100000 * cbSum r g b - 64 * (-16874 * r.toNat - 33126 * g.toNat + 50000 * b.toNat) ∧
      100000 * cbSum r g b - 64 * (-16874 * r.toNat - 33126 * g.toNat + 50000 * b.toNat) < 300000 := by
  have hr := forward_entry_error (r := .cbR) (by decide) r
  have hg := forward_entry_error (r := .cbG) (by decide) g
  simp only [numerator] at hr hg
  rw [cbSum, entry_cbB]
  omega

/-- The entry of R is exact, so two of the three tables err (R124). -/
theorem crSum_error (r g b : Byte) :
    -100000 < 100000 * crSum r g b - 64 * (50000 * r.toNat - 41869 * g.toNat - 8131 * b.toNat) ∧
      100000 * crSum r g b - 64 * (50000 * r.toNat - 41869 * g.toNat - 8131 * b.toNat) < 300000 := by
  have hg := forward_entry_error (r := .crG) (by decide) g
  have hb := forward_entry_error (r := .crB) (by decide) b
  simp only [numerator] at hg hb
  rw [crSum, entry_crR]
  omega

theorem lumaSum_white : lumaSum 255 255 255 = 16320 := by decide +kernel

/-! ### The outputs -/

theorem fwdPixel_y (p : Rgbx) : ((fwdPixel p).y.toNat : Int) = luma p.r p.g p.b :=
  byteOfRange_toInt _ (luma_range p.r p.g p.b)

theorem fwdPixel_cb (p : Rgbx) : ((fwdPixel p).cb.toNat : Int) = chromaB p.r p.g p.b :=
  byteOfRange_toInt _ (chromaB_range p.r p.g p.b)

theorem fwdPixel_cr (p : Rgbx) : ((fwdPixel p).cr.toNat : Int) = chromaR p.r p.g p.b :=
  byteOfRange_toInt _ (chromaR_range p.r p.g p.b)

/-- `n / 100000` rounded to the nearest integer, as the reading of 90_conflicts.md C6 has it. -/
def nearest (n : Int) : Int := (2 * n + 100000) / 200000

theorem nearest_add_bias (n : Int) : nearest (n + 12800000) = nearest n + 128 := by
  unfold nearest
  omega

/-- The floor shift of a sum within half a level (32 of 64) of 64 times `n / 100000` is `n / 100000` rounded, or one less:
rounding is the floor half a level higher, so it can be ahead of the shift by one level at most, and not behind it. -/
theorem asr_sub_nearest {s n : Int} (hlow : -3200000 ≤ 100000 * s - 64 * n) (hhigh : 100000 * s - 64 * n ≤ 3200000) :
    asr s scale - nearest n = -1 ∨ asr s scale - nearest n = 0 := by
  rw [asr_scale, nearest]
  omega

theorem asr_add_bias_sub_nearest {s n : Int} (hlow : -3200000 ≤ 100000 * s - 64 * n)
    (hhigh : 100000 * s - 64 * n ≤ 3200000) :
    asr s scale + 128 - nearest (n + 12800000) = -1 ∨ asr s scale + 128 - nearest (n + 12800000) = 0 := by
  rw [nearest_add_bias, Int.add_sub_add_right]
  exact asr_sub_nearest hlow hhigh

/-- `Y = v` is met by grey `v` with one more of blue: 7 or so of 64 above the level, which the error of the sum leaves there.
White has no more blue to add, and its sum is exact. -/
theorem luma_surjective (v : Byte) : ∃ r g b : Byte, luma r g b = v.toNat := by
  by_cases hv : v.toNat < 255
  case pos =>
    have hblue : (v + 1).toNat = v.toNat + 1 := BitVec.toNat_add_of_lt (by simp; omega)
    have herror := lumaSum_error v v (v + 1)
    refine ⟨v, v, v + 1, ?_⟩
    rw [luma, asr_scale]
    omega
  case neg =>
    have hwhite : v = 255 := by bv_omega
    refine ⟨255, 255, 255, ?_⟩
    rw [luma, lumaSum_white, hwhite]
    decide

/-- Two channel values apart by `2 * (v - 128)`, or by `-255` where that is out of reach (`v = 0`). -/
theorem exists_bytes_apart (v : Byte) : ∃ c t : Byte, (c.toNat : Int) - t.toNat = max (-255) (2 * (v.toNat : Int) - 256) := by
  refine ⟨BitVec.ofNat 8 (2 * v.toNat - 256), BitVec.ofNat 8 (min 255 (256 - 2 * v.toNat)), ?_⟩
  simp only [BitVec.toNat_ofNat]
  omega

/-- `Cb = v`: with `R = G = t` the coefficients of R and G add up to minus one half, and `B - t` alone sets the level. -/
theorem chromaB_surjective (v : Byte) : ∃ r g b : Byte, chromaB r g b = v.toNat := by
  obtain ⟨b, t, happart⟩ := exists_bytes_apart v
  have herror := cbSum_error t t b
  refine ⟨t, t, b, ?_⟩
  rw [chromaB, asr_scale]
  omega

/-- `Cr = v`: as for `Cb`, with `G = B = t` and `R - t` setting the level. -/
theorem chromaR_surjective (v : Byte) : ∃ r g b : Byte, chromaR r g b = v.toNat := by
  obtain ⟨r, t, happart⟩ := exists_bytes_apart v
  have herror := crSum_error r t t
  refine ⟨r, t, t, ?_⟩
  rw [chromaR, asr_scale]
  omega

/-! ### The sums' ranges -/

theorem lumaSum_range (r g b : Byte) : 0 ≤ lumaSum r g b ∧ lumaSum r g b ≤ 16320 := by
  have hr := forward_ranges r
  have hg := forward_ranges g
  have hb := forward_ranges b
  rw [lumaSum]
  omega

theorem cbSum_range (r g b : Byte) : -8158 ≤ cbSum r g b ∧ cbSum r g b ≤ 8160 := by
  have hr := forward_ranges r
  have hg := forward_ranges g
  have hb := forward_ranges b
  rw [cbSum]
  omega

theorem crSum_range (r g b : Byte) : -8158 ≤ crSum r g b ∧ crSum r g b ≤ 8160 := by
  have hr := forward_ranges r
  have hg := forward_ranges g
  have hb := forward_ranges b
  rw [crSum]
  omega

/-! ### The statements -/

/-- Settles O4: the listings were evaluated against the derivation in `forward_listing`; the shared pair is exact. -/
theorem forwardTablesFollowDerivation : Obligations.ForwardTablesFollowDerivation := by
  unfold Obligations.ForwardTablesFollowDerivation
  intro v
  have hentry : ∀ r ∈ forwardRoles, (tbl r).entry v = roundTH (numerator r * v.toNat * 64) 100000 :=
    fun r hr => entry_eq_forwardEntry hr v
  refine ⟨hentry .yR ?_, hentry .yG ?_, hentry .yB ?_, hentry .cbR ?_, hentry .cbG ?_, hentry .cbB ?_, entry_cbB v,
    hentry .crR ?_, entry_crR v, hentry .crG ?_, hentry .crB ?_⟩
  all_goals decide

/-- Settles O8: 32 times the index on both sides. -/
theorem sharedTableIsThirtyTwoTimesIndex : Obligations.SharedTableIsThirtyTwoTimesIndex := by
  unfold Obligations.SharedTableIsThirtyTwoTimesIndex
  exact fun v => ⟨(entry_cbB v).trans (entry_crR v).symm, entry_cbB v, entry_crR v⟩

/-- Settles O6: entry 0 and the order are the derivation's, by the sign of the numerator; the ends and the middle are read off
the listings, and every width contains the widest range of R125 (c). -/
theorem forwardTableFacts : Obligations.ForwardTableFacts := by
  unfold Obligations.ForwardTableFacts
  refine ⟨?zero, ?rising, ?falling, ?entries255, ?entries128, lumaSum_white, by decide, ?width⟩
  case zero => exact fun r hr => (entry_eq_forwardEntry hr 0).trans (forwardEntry_zero _)
  case rising =>
    intro r hr v w hvw
    obtain ⟨hforward, hsign⟩ : r ∈ forwardRoles ∧ 0 ≤ numerator r := by revert r; decide
    rw [entry_eq_forwardEntry hforward, entry_eq_forwardEntry hforward]
    exact forwardEntry_mono hsign hvw
  case falling =>
    intro r hr v w hvw
    obtain ⟨hforward, hsign⟩ : r ∈ forwardRoles ∧ numerator r ≤ 0 := by revert r; decide
    rw [entry_eq_forwardEntry hforward, entry_eq_forwardEntry hforward]
    exact forwardEntry_antitone hsign hvw
  case entries255 => decide +kernel
  case entries128 => decide +kernel
  case width =>
    intro r hr v
    have hbetween := forward_entry_between hr v
    omega

/-- Settles O16: the ranges of the sums from the nine ranges of the tables, and a witness for each value of each channel. -/
theorem forwardRangeIsExactlyAByte : Obligations.ForwardRangeIsExactlyAByte := by
  unfold Obligations.ForwardRangeIsExactlyAByte
  refine ⟨?ranges, ?lumaLow, lumaSum_white, ?cbLow, ?cbHigh, ?crLow, ?crHigh, luma_surjective, chromaB_surjective,
    chromaR_surjective⟩
  case ranges =>
    intro r g b
    obtain ⟨hlumaLow, hlumaHigh⟩ := lumaSum_range r g b
    obtain ⟨hcbLow, hcbHigh⟩ := cbSum_range r g b
    obtain ⟨hcrLow, hcrHigh⟩ := crSum_range r g b
    obtain ⟨hyLow, hyHigh⟩ := luma_range r g b
    obtain ⟨hbLow, hbHigh⟩ := chromaB_range r g b
    exact ⟨hlumaLow, hlumaHigh, hcbLow, hcbHigh, hcrLow, hcrHigh, hyLow, hyHigh, hbLow, hbHigh, chromaR_range r g b⟩
  all_goals decide +kernel

/-- Settles O17: the error of each sum is less than half a level, so the one floor shift decides. -/
theorem forwardAccuracy : Obligations.ForwardAccuracy := by
  unfold Obligations.ForwardAccuracy
  intro r g b x
  obtain ⟨hyLow, hyHigh⟩ := lumaSum_error r g b
  obtain ⟨hbLow, hbHigh⟩ := cbSum_error r g b
  obtain ⟨hrLow, hrHigh⟩ := crSum_error r g b
  simp only [fwdPixel_y, fwdPixel_cb, fwdPixel_cr]
  refine ⟨?y, ?cb, ?cr⟩
  case y => exact asr_sub_nearest (by omega) (by omega)
  case cb => exact asr_add_bias_sub_nearest (by omega) (by omega)
  case cr => exact asr_add_bias_sub_nearest (by omega) (by omega)

end Sys2Proof.Machine
end

section
/-!
PROOFS. The forward converter's values, and the round trip (41_forward_converter.md R130, R134, R138; 43_reverse_converter.md
R178). The reverse listings are evaluated against the derivation once, in `reverse_listing`. The round trip then follows from the
errors of the entries on both sides, since the two matrices undo each other but for a few millionths: what is left is what the
floor shifts cut off. No pixels are enumerated.
-/

namespace Sys2Proof.Machine

/-! ### The reverse listings and their error -/

theorem reverseEntry_eq_roundTH (n : Int) (v : Byte) :
    reverseEntry n v = roundTH (n * (v.toNat - 128) * 64) 100000 := rfl

/-- The four roles of the reverse direction (42_reverse_tables.md R151). -/
def reverseRoles : List Role := [.rCr, .gCb, .gCr, .bCb]

/-- The four listings, evaluated: the one place where the listed values are compared with the derivation (R153). -/
theorem reverse_listing : ∀ r ∈ reverseRoles,
    (tbl r).entries = (List.range 256).map fun k => reverseEntry (numerator r) (BitVec.ofNat 8 k) := by
  decide +kernel

theorem entry_eq_reverseEntry {r : Role} (hr : r ∈ reverseRoles) (v : Byte) :
    (tbl r).entry v = reverseEntry (numerator r) v :=
  Table.entry_of_listing (reverse_listing r hr) v

/-- How far an entry is from the exact product that R153 rounds, in units of 1/100000. -/
theorem reverse_entry_error {r : Role} (hr : r ∈ reverseRoles) (v : Byte) :
    -50000 < 100000 * (tbl r).entry v - 64 * (numerator r * (v.toNat - 128)) ∧
      100000 * (tbl r).entry v - 64 * (numerator r * (v.toNat - 128)) < 150000 := by
  have herror := roundTH_error (numerator r * (v.toNat - 128) * 64) (d := 100000) (by decide)
  rw [← reverseEntry_eq_roundTH, ← entry_eq_reverseEntry hr] at herror
  omega

/-! ### The round trip before the clamp

Each channel comes back as the luma and the chroma levels give it, so its error is that of the forward sums, what the forward
shifts cut off (less than a level of `Y`, `Cb` and `Cr` each), the error of the reverse entries, and what the last shift cuts off. -/

/-- Cut off: less than one level of `Y`, 1.402 for the one of `Cr`, and less than one by the last shift. -/
theorem redValue_fwdPixel (p : Rgbx) :
    -3 ≤ redValue (fwdPixel p).y (fwdPixel p).cr - p.r.toNat ∧
      redValue (fwdPixel p).y (fwdPixel p).cr - p.r.toNat ≤ 0 := by
  have hluma := lumaSum_error p.r p.g p.b
  have hchroma := crSum_error p.r p.g p.b
  have hentry := reverse_entry_error (r := .rCr) (by decide) (fwdPixel p).cr
  rw [fwdPixel_cr, chromaR] at hentry
  rw [redValue, fwdPixel_y, luma]
  simp only [asr_scale, numerator] at hentry ⊢
  omega

/-- Green's chroma coefficients are negative: what the chroma shifts cut off, 1.059 levels at most, raises it, so the error has both
signs. -/
theorem greenValue_fwdPixel (p : Rgbx) :
    -2 ≤ greenValue (fwdPixel p).y (fwdPixel p).cb (fwdPixel p).cr - p.g.toNat ∧
      greenValue (fwdPixel p).y (fwdPixel p).cb (fwdPixel p).cr - p.g.toNat ≤ 1 := by
  have hluma := lumaSum_error p.r p.g p.b
  have hblue := cbSum_error p.r p.g p.b
  have hred := crSum_error p.r p.g p.b
  have hentryB := reverse_entry_error (r := .gCb) (by decide) (fwdPixel p).cb
  have hentryR := reverse_entry_error (r := .gCr) (by decide) (fwdPixel p).cr
  rw [fwdPixel_cb, chromaB] at hentryB
  rw [fwdPixel_cr, chromaR] at hentryR
  rw [greenValue, fwdPixel_y, luma]
  simp only [asr_scale, numerator] at hentryB hentryR ⊢
  omega

/-- Cut off: as for red, with 1.772 for the one level of `Cb`, which leaves 0.23 for all the entries' errors. -/
theorem blueValue_fwdPixel (p : Rgbx) :
    -3 ≤ blueValue (fwdPixel p).y (fwdPixel p).cb - p.b.toNat ∧
      blueValue (fwdPixel p).y (fwdPixel p).cb - p.b.toNat ≤ 0 := by
  have hluma := lumaSum_error p.r p.g p.b
  have hchroma := cbSum_error p.r p.g p.b
  have hentry := reverse_entry_error (r := .bCb) (by decide) (fwdPixel p).cb
  rw [fwdPixel_cb, chromaB] at hentry
  rw [blueValue, fwdPixel_y, luma]
  simp only [asr_scale, numerator] at hentry ⊢
  omega

/-! ### The clamp -/

theorem saturate_toInt (v : Int) : ((saturate v).toNat : Int) = clamp255 v :=
  byteOfRange_toInt _ (clamp255_range v)

/-- The clamp moves a value no further from a byte: bounds of its error that contain 0 survive. -/
theorem saturate_error {v lo hi : Int} {c : Byte} (hlo : lo ≤ 0) (hhi : 0 ≤ hi)
    (h : lo ≤ v - c.toNat ∧ v - c.toNat ≤ hi) :
    lo ≤ ((saturate v).toNat : Int) - c.toNat ∧ ((saturate v).toNat : Int) - c.toNat ≤ hi := by
  rw [saturate_toInt, clamp255]
  split
  · omega
  · split
    · omega
    · exact h

/-! ### The fourth byte -/

/-- The fourth byte of the input reaches the fourth byte of the output and no other (41_forward_converter.md R134). -/
theorem fwdPixel_fourthByte (r g b x x' : Byte) : fwdPixel ⟨r, g, b, x'⟩ = { fwdPixel ⟨r, g, b, x⟩ with x := x' } := rfl

/-- The fourth byte of the input reaches the fourth byte of the output and no other (43_reverse_converter.md R175). -/
theorem revPixel_fourthByte (y cb cr x x' : Byte) : revPixel ⟨y, cb, cr, x'⟩ = { revPixel ⟨y, cb, cr, x⟩ with x := x' } := rfl

/-- An output known for `X = 0` is known for every `X`. -/
theorem fwdPixel_eq_of_zero {r g b : Byte} {q : Yccx} (h : fwdPixel ⟨r, g, b, 0⟩ = q) (x : Byte) :
    fwdPixel ⟨r, g, b, x⟩ = { q with x := x } := by
  rw [fwdPixel_fourthByte r g b 0 x, h]

/-- A round trip known for `X = 0` is known for every `X`. -/
theorem roundTrip_eq_of_zero {r g b : Byte} {q : Rgbx} (h : revPixel (fwdPixel ⟨r, g, b, 0⟩) = q) (x : Byte) :
    revPixel (fwdPixel ⟨r, g, b, x⟩) = { q with x := x } := by
  rw [fwdPixel_fourthByte r g b 0 x, revPixel_fourthByte _ _ _ 0 x, ← h]
  rfl

/-! ### The grey line -/

/-- The grey values whose luma sum is one sixty-fourth below their level (R138). -/
def shortGreys : List Nat :=
  [11, 18, 25, 32, 55, 62, 69, 76, 99, 106, 113, 136, 143, 150, 157, 180, 187, 194, 201, 224, 231, 238]

/-- The 256 sums of the grey line, evaluated. -/
theorem lumaSum_grey (v : Byte) :
    (v.toNat ∈ shortGreys → lumaSum v v v = 64 * v.toNat - 1) ∧
      (v.toNat ∉ shortGreys → 64 * (v.toNat : Int) ≤ lumaSum v v v) := by
  revert v
  decide +kernel

theorem lumaSum_grey_lt (v : Byte) : lumaSum v v v < 64 * v.toNat + 64 := by
  have herror := lumaSum_error v v v
  omega

/-- On the grey line the coefficients of `Cb` cancel, and what the entries err by is not negative and less than a level. -/
theorem chromaB_grey (v : Byte) : chromaB v v v = 128 := by
  have herror := cbSum_error v v v
  rw [chromaB, asr_scale]
  omega

/-- On the grey line the coefficients of `Cr` cancel as those of `Cb` do. -/
theorem chromaR_grey (v : Byte) : chromaR v v v = 128 := by
  have herror := crSum_error v v v
  rw [chromaR, asr_scale]
  omega

/-! ### The statements -/

/-- Settles O18: the clamp keeps the bounds that the three values have before it; the two inputs that reach the bounds are evaluated. -/
theorem roundTripWithinThree : Obligations.RoundTripWithinThree := by
  unfold Obligations.RoundTripWithinThree
  refine ⟨fun r g b x => ⟨?red, ?green, ?blue, rfl⟩, fun x => ⟨?vRT15, ?vRT16⟩⟩
  case red => exact saturate_error (by decide) (by decide) (redValue_fwdPixel ⟨r, g, b, x⟩)
  case green => exact saturate_error (by decide) (by decide) (greenValue_fwdPixel ⟨r, g, b, x⟩)
  case blue => exact saturate_error (by decide) (by decide) (blueValue_fwdPixel ⟨r, g, b, x⟩)
  case vRT15 => exact roundTrip_eq_of_zero (q := ⟨0, 0, 36, 0⟩) (by decide +kernel) x
  case vRT16 => exact roundTrip_eq_of_zero (q := ⟨0, 143, 30, 0⟩) (by decide +kernel) x

/-- Settles O9: the three outputs stand for the values before the narrowing, which are R130's by definition. -/
theorem fwdPixelFormula : Obligations.FwdPixelFormula := by
  unfold Obligations.FwdPixelFormula
  exact fun r g b x => ⟨fwdPixel_y ⟨r, g, b, x⟩, fwdPixel_cb ⟨r, g, b, x⟩, fwdPixel_cr ⟨r, g, b, x⟩, rfl⟩

/-- Settles O11: the fixed values are evaluated; on the grey line the luma sum decides `Y`, and the chroma coefficients cancel. -/
theorem forwardKnownValues : Obligations.ForwardKnownValues := by
  unfold Obligations.ForwardKnownValues
  refine ⟨fun x => ⟨?black, ?white, ?grey, ?red, ?green, ?blue⟩, fun v x => ⟨?cb, ?cr, ?luma⟩⟩
  case black => exact fwdPixel_eq_of_zero (q := ⟨0, 128, 128, 0⟩) (by decide +kernel) x
  case white => exact fwdPixel_eq_of_zero (q := ⟨255, 128, 128, 0⟩) (by decide +kernel) x
  case grey => exact fwdPixel_eq_of_zero (q := ⟨128, 128, 128, 0⟩) (by decide +kernel) x
  case red => exact fwdPixel_eq_of_zero (q := ⟨76, 84, 255, 0⟩) (by decide +kernel) x
  case green => exact fwdPixel_eq_of_zero (q := ⟨149, 43, 21, 0⟩) (by decide +kernel) x
  case blue => exact fwdPixel_eq_of_zero (q := ⟨29, 255, 107, 0⟩) (by decide +kernel) x
  case cb => exact BitVec.eq_of_toNat_eq (Int.ofNat_inj.mp ((fwdPixel_cb ⟨v, v, v, x⟩).trans (chromaB_grey v)))
  case cr => exact BitVec.eq_of_toNat_eq (Int.ofNat_inj.mp ((fwdPixel_cr ⟨v, v, v, x⟩).trans (chromaR_grey v)))
  case luma =>
    have hy : ((fwdPixel ⟨v, v, v, x⟩).y.toNat : Int) = lumaSum v v v / 64 := (fwdPixel_y _).trans (asr_scale _)
    obtain ⟨hshort, hfull⟩ := lumaSum_grey v
    by_cases hv : v.toNat ∈ shortGreys
    · have hsum := hshort hv
      exact (if_pos hv).mpr ⟨hsum, by omega⟩
    · have hlow := hfull hv
      have hhigh := lumaSum_grey_lt v
      exact (if_neg hv).mpr (BitVec.eq_of_toNat_eq (by omega))

/-- Settles O13, by `fwdPixel_fourthByte` and `revPixel_fourthByte`. -/
theorem fourthBytePassesThrough : Obligations.FourthBytePassesThrough := by
  unfold Obligations.FourthBytePassesThrough
  exact ⟨fun r g b x x' => ⟨rfl, fwdPixel_fourthByte r g b x x'⟩, fun y cb cr x x' => ⟨rfl, revPixel_fourthByte y cb cr x x'⟩⟩

end Sys2Proof.Machine
end

section
/-!
PROOFS. What a command leaves unchanged, and what its run gives each pixel (41_forward_converter.md R135, R136; 44_engine_control.md
R194, R197, R202). A run in progress changes memory and `IDX` alone (`State.advanced`), so what it keeps needs no lemma per
field. Each destination pixel is the converted source pixel of memory at the launch; that the pixels are independent and that a
batch can be split follow from that.
-/

namespace Sys2Proof.Machine

/-! ### The frame of one step -/

/-- Settles O34, by what a command can have done: a launch writes no byte, a pixel step the four at `DST + 4*IDX`, a completion
`BUSY` alone. -/
theorem commandFrame : Obligations.CommandFrame := by
  unfold Obligations.CommandFrame
  intro i s t h
  rcases exec_next h with ⟨hb, op, dst, src, pixels, -, -, rfl⟩ | ⟨hb, hi, -, -, rfl⟩ | ⟨hb, hi, rfl⟩
  case inl =>
    have notBusy : ∀ {P : Prop}, s.busy = true → P := fun busy => absurd busy (by simp [hb])
    exact ⟨rfl, rfl, rfl, rfl, fun _ _ => rfl, notBusy, notBusy, notBusy⟩
  case inr.inl =>
    have notIdle : ∀ {P : Prop}, s.busy = false → P := fun idle => absurd idle (by simp [hb])
    refine ⟨rfl, rfl, rfl, rfl, notIdle, fun _ => ⟨rfl, rfl, rfl, rfl, rfl⟩, fun _ _ => ⟨hb, fun a ha => ?_⟩,
      fun _ heq => absurd heq (Nat.ne_of_lt hi)⟩
    exact Memory.read_writePixel_other s.mem _ ha
  case inr.inr =>
    have notIdle : ∀ {P : Prop}, s.busy = false → P := fun idle => absurd idle (by simp [hb])
    exact ⟨rfl, rfl, rfl, rfl, notIdle, fun _ => ⟨rfl, rfl, rfl, rfl, rfl⟩, fun _ hlt => absurd hi (Nat.ne_of_lt hlt),
      fun _ _ => ⟨rfl, fun _ => rfl⟩⟩

/-! ### The states of a run -/

/-- `s` with a command in progress that has come further: only memory and `IDX` have moved. -/
def State.advanced (s : State) (m : Memory) (idx : BitVec 32) : State := { s with mem := m, idx := idx }

/-- After `k` pixel steps the command is still in progress, and has moved memory and `IDX` alone. -/
theorem State.Running.advances {k : Nat} {s : State} (h : s.Running) (hk : s.idx.toNat + k ≤ s.n.toNat) :
    ∃ m idx, steps k s = .next (s.advanced m idx) ∧ (s.advanced m idx).Running ∧ idx.toNat = s.idx.toNat + k := by
  induction k generalizing s with
  | zero => exact ⟨s.mem, s.idx, rfl, h, rfl⟩
  | succ k ih =>
    have hi : s.idx.toNat < s.n.toNat := by omega
    obtain ⟨m, hstep, hrun⟩ := h.step_pixel hi
    have hidx : (s.pixelDone m).idx.toNat = s.idx.toNat + 1 := idx_succ_toNat hi
    obtain ⟨m', idx', hsteps, hrun', hidx'⟩ := ih hrun (by rw [hidx, State.pixelDone_n]; omega)
    exact ⟨m', idx', (steps_of_next hstep k).trans hsteps, hrun', by omega⟩

/-- A command that meets the launch preconditions ends idle, with the memory of `Run` in canonical form (44_engine_control.md R202)
and with the parameters and the host's moves as they were: another command can follow. -/
theorem runCommand_ends {op : Op} {dst src : Nat} {pixels : BitVec 32} {s : State} (hb : s.busy = false)
    (hw : s.hostWaits = true) (hwf : s.mem.wf = true) (ok : LaunchOk s.aw s.admission dst src pixels) :
    ∃ u, runCommand op dst src pixels s = .next u ∧ u.busy = false ∧ u.hostWaits = true ∧ u.mem.wf = true ∧
      u.aw = s.aw ∧ u.admission = s.admission ∧ ∀ a, u.mem.read a = runByte op src dst pixels.toNat s.mem a := by
  have hn : (s.latch op src dst pixels).n.toNat = pixels.toNat := latched_count ok.count
  obtain ⟨m, idx, hsteps, hrun, hidx⟩ :=
    (ok.latch_running hw hwf op).advances (k := pixels.toNat) (by rw [hn]; exact Nat.le_of_eq (Nat.zero_add _))
  have hdone : idx.toNat = ((s.latch op src dst pixels).advanced m idx).n.toNat := by
    rw [hidx]
    exact (Nat.zero_add _).trans hn.symm
  refine ⟨_, (runCommand_of_launchOk hb ok).trans ((steps_then hsteps).trans (hrun.step_completion hdone)), rfl, hrun.waits,
    hrun.memWf, rfl, rfl, fun a => ?_⟩
  rw [← hn]
  exact hrun.soFar.read_of_completed hdone a

/-! ### The pixels of a run -/

theorem Pixel.eq_of_bytes {p q : Pixel} (h : ∀ k < 4, p.byte k = q.byte k) : p = q := by
  have h0 : p.k0 = q.k0 := h 0 (by decide)
  have h1 : p.k1 = q.k1 := h 1 (by decide)
  have h2 : p.k2 = q.k2 := h 2 (by decide)
  have h3 : p.k3 = q.k3 := h 3 (by decide)
  cases p
  cases q
  simp_all

/-- Memory that holds the bytes of `Run` holds, as destination pixel `i`, the converted source pixel `i`. -/
theorem readPixel_of_run {op : Op} {src dst count i : Nat} {m m' : Memory}
    (hrun : ∀ a, m'.read a = runByte op src dst count m a) (hi : i < count) :
    m'.readPixel (dst + 4 * i) = convert op (m.readPixel (src + 4 * i)) := by
  refine Pixel.eq_of_bytes fun k hk => ?_
  have hpixel := runByte_pixel (dst := dst) (a := pixelAddr dst i + k) hi (by omega) op src m
  rw [Nat.add_sub_cancel_left] at hpixel
  exact (Memory.readPixel_byte m' _ hk).trans ((hrun _).trans hpixel)

/-- Settles O35: the command stays in progress for `k <= N` pixel steps, and the completion leaves the memory of `Run`. -/
theorem rgb2yccConvertsTheRun : Obligations.Rgb2yccConvertsTheRun := by
  unfold Obligations.Rgb2yccConvertsTheRun
  intro s dst src pixels hb hw hwf ok
  obtain ⟨u, hu, hidle, hrun⟩ := runCommand_completes (op := .rgb2ycc) hb hw hwf ok
  have hn : (s.latch .rgb2ycc src dst pixels).n.toNat = pixels.toNat := latched_count ok.count
  refine ⟨s.latch .rgb2ycc src dst pixels, u, (exec_idle (op := .rgb2ycc) hb).trans (launch_next ok), fun k hk => ?busy,
    (runCommand_of_launchOk hb ok).symm.trans hu, hidle, fun i hi => readPixel_of_run hrun hi, fun a ha => ?outside⟩
  case busy =>
    obtain ⟨m, idx, hsteps, running, -⟩ :=
      (ok.latch_running hw hwf .rgb2ycc).advances (k := k) (by rw [hn, State.latch_idx]; exact (Nat.zero_add k).trans_le hk)
    exact ⟨_, hsteps, running.busy⟩
  case outside => rw [hrun, runByte_outside ha]

/-- Settles O39: destination pixel `i` of either run is the converted source pixel `i`. -/
theorem pixelsAreIndependent : Obligations.PixelsAreIndependent := by
  unfold Obligations.PixelsAreIndependent
  intro s s' op dst src pixels hb hb' hw hw' hwf hwf' ok ok'
  obtain ⟨t, ht, -, hrun⟩ := runCommand_completes (op := op) hb hw hwf ok
  obtain ⟨t', ht', -, hrun'⟩ := runCommand_completes (op := op) hb' hw' hwf' ok'
  refine ⟨t, t', ht, ht', fun i hi hsame => ?_⟩
  rw [readPixel_of_run hrun hi, readPixel_of_run hrun' hi, hsame]

/-! ### A batch in two parts -/

/-- A count below `2^31` is not negative, and is the descriptor's. -/
theorem ofNat_count {p : Nat} (h : p < 2 ^ 31) : (BitVec.ofNat 32 p).toNat = p ∧ 0 ≤ (BitVec.ofNat 32 p).toInt := by
  have hp : (BitVec.ofNat 32 p).toNat = p := by rw [BitVec.toNat_ofNat]; omega
  rw [BitVec.toInt_eq_toNat_of_lt (by omega), hp]
  omega

/-- A shorter run of consecutive pixels, from pixel `k` of both buffers on, has legal regions too. -/
theorem RegionsLegal.part {dst src count k q : Nat} (h : RegionsLegal dst src count) (hk : k + q ≤ count) :
    RegionsLegal (dst + 4 * k) (src + 4 * k) q := by
  rcases h with disjoint | inPlace
  · refine Or.inl fun a ha => disjoint a ?_
    simp only [inRegion_iff] at ha ⊢
    omega
  · exact Or.inr (by rw [inPlace])

theorem FootprintAdmitted.part {admission : List Region} {dst src count k q : Nat} (h : FootprintAdmitted admission dst src count)
    (hk : k + q ≤ count) : FootprintAdmitted admission (dst + 4 * k) (src + 4 * k) q := by
  intro a ha
  refine h a ?_
  simp only [inRegion_iff] at ha ⊢
  omega

/-- A part of a batch whose addresses are below `2^AW` meets the launch preconditions. -/
theorem LaunchOk.part {aw : Nat} {admission : List Region} {dst src count k q : Nat} (hcount : count < 2 ^ 31)
    (ok : LaunchOk aw admission dst src (BitVec.ofNat 32 count)) (hk : k + q ≤ count) (hsrc : src + 4 * k < 2 ^ aw)
    (hdst : dst + 4 * k < 2 ^ aw) : LaunchOk aw admission (dst + 4 * k) (src + 4 * k) (BitVec.ofNat 32 q) := by
  obtain ⟨-, -, -, srcFits, dstFits, overlap, admitted⟩ := ok
  obtain ⟨hq, hnonneg⟩ := ofNat_count (p := q) (by omega)
  rw [(ofNat_count hcount).1] at srcFits dstFits overlap admitted
  constructor
  case srcAddr => exact hsrc
  case dstAddr => exact hdst
  case count => exact hnonneg
  case srcFits => rw [hq]; omega
  case dstFits => rw [hq]; omega
  case overlap => rw [hq]; exact overlap.part hk
  case admitted => rw [hq]; exact admitted.part hk

/-- An empty command meets the launch preconditions wherever it lies (44_engine_control.md R198). -/
theorem launchOk_empty {aw : Nat} (admission : List Region) {dst src : Nat} (hsrc : src < 2 ^ aw) (hdst : dst < 2 ^ aw) :
    LaunchOk aw admission dst src (BitVec.ofNat 32 0) where
  srcAddr := hsrc
  dstAddr := hdst
  count := by decide
  srcFits := Nat.le_of_lt hsrc
  dstFits := Nat.le_of_lt hdst
  overlap := Or.inl fun a => by simp only [inRegion_iff, BitVec.toNat_ofNat]; omega
  admitted := fun a => by simp only [inRegion_iff, BitVec.toNat_ofNat]; omega

/-- The source of the second part still holds what it held before the first part wrote its destination. -/
theorem readPixel_of_firstPart {op : Op} {dst src p q i : Nat} {m m' : Memory} (legal : RegionsLegal dst src (p + q))
    (hrun : ∀ a, m'.read a = runByte op src dst p m a) (hi : i < q) :
    m'.readPixel (src + 4 * (p + i)) = m.readPixel (src + 4 * (p + i)) := by
  refine Memory.readPixel_congr fun c hc => ?_
  have outside : ¬ (dst ≤ c ∧ c < dst + 4 * p) := by
    rcases legal with disjoint | inPlace
    · have := disjoint c
      simp only [inRegion_iff] at this
      omega
    · omega
  rw [hrun, runByte_outside outside]

/-- `Run` over `p + q` pixels is `Run` over the first `p` and then over the other `q`. -/
theorem runByte_append {op : Op} {dst src p q : Nat} {m m' : Memory} (legal : RegionsLegal dst src (p + q))
    (hrun : ∀ a, m'.read a = runByte op src dst p m a) (a : Nat) :
    runByte op (src + 4 * p) (dst + 4 * p) q m' a = runByte op src dst (p + q) m a := by
  by_cases inSecond : dst + 4 * p ≤ a ∧ a < dst + 4 * p + 4 * q
  case pos =>
    obtain ⟨k, rfl⟩ : ∃ k, a = dst + 4 * p + k := ⟨a - (dst + 4 * p), by omega⟩
    have hpixel := readPixel_of_firstPart legal hrun (i := k / 4) (by omega)
    rw [runByte_dest (by omega), show dst + 4 * p + k = dst + (4 * p + k) by omega, runByte_dest (by omega),
      show (4 * p + k) / 4 = p + k / 4 by omega, show (4 * p + k) % 4 = k % 4 by omega,
      show pixelAddr (src + 4 * p) (k / 4) = src + 4 * (p + k / 4) by unfold pixelAddr; omega, hpixel]
    rfl
  case neg =>
    rw [runByte_outside inSecond, hrun]
    by_cases inFirst : dst ≤ a ∧ a < dst + 4 * p
    · obtain ⟨k, rfl⟩ : ∃ k, a = dst + k := ⟨a - dst, by omega⟩
      rw [runByte_dest (by omega), runByte_dest (by omega)]
    · rw [runByte_outside inFirst, runByte_outside (by omega)]

/-- The second part of a batch, at addresses reduced to `AW` bits, meets the launch preconditions and, after the first part,
gives the bytes of the one command. The reduction acts only on an empty part, which writes nothing. -/
theorem LaunchOk.secondPart {aw : Nat} {admission : List Region} {dst src p q : Nat} (hcount : p + q < 2 ^ 31)
    (ok : LaunchOk aw admission dst src (BitVec.ofNat 32 (p + q))) :
    LaunchOk aw admission ((dst + 4 * p) % 2 ^ aw) ((src + 4 * p) % 2 ^ aw) (BitVec.ofNat 32 q) ∧
      ∀ {op : Op} {m m' : Memory}, (∀ a, m'.read a = runByte op src dst p m a) → ∀ a,
        runByte op ((src + 4 * p) % 2 ^ aw) ((dst + 4 * p) % 2 ^ aw) q m' a = runByte op src dst (p + q) m a := by
  cases q with
  | zero =>
    have hpos := Nat.two_pow_pos aw
    refine ⟨launchOk_empty admission (Nat.mod_lt _ hpos) (Nat.mod_lt _ hpos), fun hrun a => ?_⟩
    rw [runByte_outside (by omega)]
    exact hrun a
  | succ q =>
    have hsrc := ok.srcFits
    have hdst := ok.dstFits
    have legal := ok.overlap
    rw [(ofNat_count hcount).1] at hsrc hdst legal
    rw [Nat.mod_eq_of_lt (show dst + 4 * p < 2 ^ aw by omega), Nat.mod_eq_of_lt (show src + 4 * p < 2 ^ aw by omega)]
    exact ⟨ok.part hcount (Nat.le_refl _) (by omega) (by omega), runByte_append legal⟩

/-- Settles O37: all three commands meet the launch preconditions and leave the memory of `Run`, which appends; canonical memories
that read alike are equal. -/
theorem batchConsistency : Obligations.BatchConsistency := by
  unfold Obligations.BatchConsistency
  intro s op dst src p q hcount hb hw hwf ok
  have okFirst : LaunchOk s.aw s.admission dst src (BitVec.ofNat 32 p) :=
    ok.part hcount (k := 0) (by omega) ok.srcAddr ok.dstAddr
  obtain ⟨okSecond, happend⟩ := ok.secondPart hcount
  obtain ⟨t, ht, -, -, twf, -, -, trun⟩ := runCommand_ends (op := op) hb hw hwf ok
  obtain ⟨u, hu, ub, uw, uwf, uaw, uadm, urun⟩ := runCommand_ends (op := op) hb hw hwf okFirst
  rw [← uaw, ← uadm] at okSecond
  obtain ⟨v, hv, -, -, vwf, -, -, vrun⟩ := runCommand_ends (op := op) ub uw uwf okSecond
  rw [(ofNat_count hcount).1] at trun
  rw [(ofNat_count (show p < 2 ^ 31 by omega)).1] at urun
  rw [(ofNat_count (show q < 2 ^ 31 by omega)).1, uaw] at vrun
  refine ⟨t, u, v, ht, hu, uaw ▸ hv, equalMemoriesAreEqualData t.mem v.mem twf vwf fun a => ?_⟩
  rw [trun, vrun, happend urun]

end Sys2Proof.Machine
end

section
/-!
PROOFS. The facts of the reverse tables (42_reverse_tables.md R154 to R159). An entry is `reverseEntry` of its role's numerator
(`entry_eq_reverseEntry`), so that the zero at 128 and the order of a table are the derivation's; the ranges follow from the order and
the two ends, and the ranges after the shift and of the sum for `G` from those.
-/

namespace Sys2Proof.Machine

/-! ### The reverse derivation -/

/-- At 128 the biased index is 0 (42_reverse_tables.md R152). -/
theorem reverseEntry_center (n : Int) : reverseEntry n 128 = 0 := by
  simp [reverseEntry_eq_roundTH, roundTH, tdiv]

theorem reverseEntry_mono {n : Int} (hn : 0 ≤ n) {v w : Byte} (h : v ≤ w) : reverseEntry n v ≤ reverseEntry n w := by
  have hindex : (v.toNat : Int) - 128 ≤ w.toNat - 128 := Int.sub_le_sub_right (Int.ofNat_le.mpr h) 128
  have hmul := Int.mul_le_mul_of_nonneg_left hindex hn
  exact roundTH_mono (by decide) (Int.mul_le_mul_of_nonneg_right hmul (by decide))

theorem reverseEntry_antitone {n : Int} (hn : n ≤ 0) {v w : Byte} (h : v ≤ w) : reverseEntry n w ≤ reverseEntry n v := by
  have hindex : (v.toNat : Int) - 128 ≤ w.toNat - 128 := Int.sub_le_sub_right (Int.ofNat_le.mpr h) 128
  have hmul := Int.mul_le_mul_of_nonpos_left hn hindex
  exact roundTH_mono (by decide) (Int.mul_le_mul_of_nonneg_right hmul (by decide))

/-! ### The order of the tables -/

theorem reverse_entry_rising {r : Role} (hr : r ∈ [Role.rCr, .bCb]) {v w : Byte} (h : v ≤ w) :
    (tbl r).entry v ≤ (tbl r).entry w := by
  obtain ⟨hreverse, hsign⟩ : r ∈ reverseRoles ∧ 0 ≤ numerator r := by revert r; decide
  rw [entry_eq_reverseEntry hreverse, entry_eq_reverseEntry hreverse]
  exact reverseEntry_mono hsign h

theorem reverse_entry_falling {r : Role} (hr : r ∈ [Role.gCb, .gCr]) {v w : Byte} (h : v ≤ w) :
    (tbl r).entry w ≤ (tbl r).entry v := by
  obtain ⟨hreverse, hsign⟩ : r ∈ reverseRoles ∧ numerator r ≤ 0 := by revert r; decide
  rw [entry_eq_reverseEntry hreverse, entry_eq_reverseEntry hreverse]
  exact reverseEntry_antitone hsign h

/-! ### The ranges -/

/-- The first and the last entry of each table, evaluated (R159 (c)). -/
theorem reverse_ends : reverseRoles.map (fun r => ((tbl r).entry 0, (tbl r).entry 255)) =
    [(-11484, 11395), (2819, -2796), (5850, -5804), (-14515, 14403)] := by decide +kernel

/-- Each table lies between its two ends, which one being the upper by its order. -/
theorem reverse_ranges (v : Byte) :
    (-11484 ≤ (tbl .rCr).entry v ∧ (tbl .rCr).entry v ≤ 11395) ∧ (-2796 ≤ (tbl .gCb).entry v ∧ (tbl .gCb).entry v ≤ 2819) ∧
    (-5804 ≤ (tbl .gCr).entry v ∧ (tbl .gCr).entry v ≤ 5850) ∧ (-14515 ≤ (tbl .bCb).entry v ∧ (tbl .bCb).entry v ≤ 14403) := by
  have hfirst : 0 ≤ v := by bv_omega
  have hlast : v ≤ 255 := by bv_omega
  have hends := reverse_ends
  simp only [reverseRoles, List.map_cons, List.map_nil, List.cons.injEq, Prod.mk.injEq, and_true] at hends
  obtain ⟨⟨hrCr0, hrCr255⟩, ⟨hgCb0, hgCb255⟩, ⟨hgCr0, hgCr255⟩, ⟨hbCb0, hbCb255⟩⟩ := hends
  rw [← hrCr0, ← hrCr255, ← hgCb0, ← hgCb255, ← hgCr0, ← hgCr255, ← hbCb0, ← hbCb255]
  exact ⟨⟨reverse_entry_rising (by decide) hfirst, reverse_entry_rising (by decide) hlast⟩,
    ⟨reverse_entry_falling (by decide) hlast, reverse_entry_falling (by decide) hfirst⟩,
    ⟨reverse_entry_falling (by decide) hlast, reverse_entry_falling (by decide) hfirst⟩,
    ⟨reverse_entry_rising (by decide) hfirst, reverse_entry_rising (by decide) hlast⟩⟩

/-- What `RevPixel` adds to `Y` for `R` (R159 (d)). -/
theorem rCr_shift_range (cr : Byte) : -180 ≤ asr ((tbl .rCr).entry cr) scale ∧ asr ((tbl .rCr).entry cr) scale ≤ 178 := by
  obtain ⟨hrange, -⟩ := reverse_ranges cr
  rw [asr_scale]
  omega

/-- What `RevPixel` adds to `Y` for `B` (R159 (d)). -/
theorem bCb_shift_range (cb : Byte) : -227 ≤ asr ((tbl .bCb).entry cb) scale ∧ asr ((tbl .bCb).entry cb) scale ≤ 225 := by
  obtain ⟨-, -, -, hrange⟩ := reverse_ranges cb
  rw [asr_scale]
  omega

theorem greenSum_range (cb cr : Byte) :
    -8600 ≤ (tbl .gCb).entry cb + (tbl .gCr).entry cr ∧ (tbl .gCb).entry cb + (tbl .gCr).entry cr ≤ 8669 := by
  obtain ⟨-, hb, -⟩ := reverse_ranges cb
  obtain ⟨-, -, hr, -⟩ := reverse_ranges cr
  omega

/-- What `RevPixel` adds to `Y` for `G` (R159 (d)). -/
theorem greenSum_shift_range (cb cr : Byte) :
    -135 ≤ asr ((tbl .gCb).entry cb + (tbl .gCr).entry cr) scale ∧
      asr ((tbl .gCb).entry cb + (tbl .gCr).entry cr) scale ≤ 135 := by
  have hsum := greenSum_range cb cr
  rw [asr_scale]
  omega

/-! ### All thirteen tables -/

theorem forward_or_reverse (r : Role) : r ∈ forwardRoles ∨ r ∈ reverseRoles := by
  cases r <;> decide

/-- The largest magnitude of all is entry 0 of `T_BCb` (R159 (e)). -/
theorem entry_magnitude (r : Role) (v : Byte) : -14515 ≤ (tbl r).entry v ∧ (tbl r).entry v ≤ 14515 := by
  obtain hforward | hreverse := forward_or_reverse r
  · have hbetween := forward_entry_between hforward v
    omega
  · have hranges := reverse_ranges v
    simp only [reverseRoles, List.mem_cons, List.not_mem_nil, or_false] at hreverse
    rcases hreverse with rfl | rfl | rfl | rfl
    all_goals omega

/-- The last entry alone tells a reverse table from the other twelve. -/
theorem eq_of_entry255_eq {q r : Role} (hr : r ∈ reverseRoles) (h : (tbl q).entry 255 = (tbl r).entry 255) : q = r := by
  have hlast : ∀ q ∈ forwardRoles ++ reverseRoles, ∀ r ∈ reverseRoles, (tbl q).entry 255 = (tbl r).entry 255 → q = r := by
    decide +kernel
  exact hlast q (List.mem_append.mpr (forward_or_reverse q)) r hr h

/-! ### The statements -/

/-- Settles O7: entry 128 and the order are the derivation's, by the sign of the numerator; the ranges follow from the order and the
ends; the bounds that are reached are evaluated. -/
theorem reverseTableFacts : Obligations.ReverseTableFacts := by
  unfold Obligations.ReverseTableFacts
  refine ⟨?zero, fun r hr _ _ => reverse_entry_rising hr, fun r hr _ _ => reverse_entry_falling hr, reverse_ends,
    rCr_shift_range, ?red0, ?red255, bCb_shift_range, ?blue0, ?blue255, ?greenSum, ?green255, ?green0, ?shiftLow, ?shiftHigh,
    ?magnitude, ?largest, ?distinct, ?entry3, ?entry253⟩
  case zero => exact fun r hr => (entry_eq_reverseEntry hr 128).trans (reverseEntry_center _)
  case greenSum =>
    intro cb cr
    obtain ⟨hlow, hhigh⟩ := greenSum_range cb cr
    exact ⟨hlow, hhigh, greenSum_shift_range cb cr⟩
  case magnitude =>
    intro r v
    have hmagnitude := entry_magnitude r v
    omega
  case distinct => exact fun r hr q hne => ⟨255, fun heq => hne (eq_of_entry255_eq hr heq)⟩
  all_goals decide +kernel

/-- Settles O5: the listings were evaluated against the derivation in `reverse_listing`. -/
theorem reverseTablesFollowDerivation : Obligations.ReverseTablesFollowDerivation := by
  unfold Obligations.ReverseTablesFollowDerivation
  intro v
  have hentry : ∀ r ∈ reverseRoles, (tbl r).entry v = roundTH (numerator r * (v.toNat - 128) * 64) 100000 :=
    fun r hr => entry_eq_reverseEntry hr v
  refine ⟨hentry .rCr ?_, hentry .gCb ?_, hentry .gCr ?_, hentry .bCb ?_⟩
  all_goals decide

/-- Settles O14: `redValue` has no argument `Cb` and `blueValue` none `Cr`; each real dependence shows between the two ends of the
channel. -/
theorem structuralZerosOfTheInverse : Obligations.StructuralZerosOfTheInverse := by
  unfold Obligations.StructuralZerosOfTheInverse
  refine ⟨fun y cb cb' cr cr' x => ⟨rfl, rfl⟩, ⟨0, 128, 0, 255, 0, ?redOfCr⟩, ⟨0, 0, 255, 128, 0, ?blueOfCb⟩,
    ⟨0, 0, 255, 128, 0, ?greenOfCb⟩, ⟨0, 128, 0, 255, 0, ?greenOfCr⟩⟩
  all_goals decide +kernel

end Sys2Proof.Machine
end

section
/-!
PROOFS. The reverse converter's values and its command (43_reverse_converter.md R170, R174, R176, R179). A value before the clamp is
`Y` and a shifted table term, so its range is the term's (42_reverse_tables.md R159) and a byte's; where the term is 0 the clamp
leaves the byte `Y` as it is. The command's run is stated for both commands at once, and its pixels are `readPixel_of_run`'s.
-/

namespace Sys2Proof.Machine

/-! ### The outputs -/

theorem revPixel_r (p : Yccx) : ((revPixel p).r.toNat : Int) = clamp255 (redValue p.y p.cr) := saturate_toInt _

theorem revPixel_g (p : Yccx) : ((revPixel p).g.toNat : Int) = clamp255 (greenValue p.y p.cb p.cr) := saturate_toInt _

theorem revPixel_b (p : Yccx) : ((revPixel p).b.toNat : Int) = clamp255 (blueValue p.y p.cb) := saturate_toInt _

/-- An output known for `X = 0` is known for every `X`. -/
theorem revPixel_eq_of_zero {y cb cr : Byte} {q : Rgbx} (h : revPixel ⟨y, cb, cr, 0⟩ = q) (x : Byte) :
    revPixel ⟨y, cb, cr, x⟩ = { q with x := x } := by
  rw [revPixel_fourthByte y cb cr 0 x, h]

/-! ### The values before the clamp -/

/-- `Y` is a byte and the term added to it is that of `rCr_shift_range` (R174). -/
theorem redValue_range (y cr : Byte) : -180 ≤ redValue y cr ∧ redValue y cr ≤ 433 := by
  have hterm := rCr_shift_range cr
  have hy := y.isLt
  rw [redValue]
  omega

theorem greenValue_range (y cb cr : Byte) : -135 ≤ greenValue y cb cr ∧ greenValue y cb cr ≤ 390 := by
  have hterm := greenSum_shift_range cb cr
  have hy := y.isLt
  rw [greenValue]
  omega

theorem blueValue_range (y cb : Byte) : -227 ≤ blueValue y cb ∧ blueValue y cb ≤ 480 := by
  have hterm := bCb_shift_range cb
  have hy := y.isLt
  rw [blueValue]
  omega

/-! ### The neutral axis -/

/-- No chroma, no term (42_reverse_tables.md R159 (a)). -/
theorem reverse_entry_center {r : Role} (hr : r ∈ reverseRoles) : (tbl r).entry 128 = 0 :=
  (entry_eq_reverseEntry hr 128).trans (reverseEntry_center _)

/-- The clamp leaves a byte as it is. -/
theorem saturate_toNat (c : Byte) : saturate c.toNat = c := by
  have herror := saturate_error (v := c.toNat) (c := c) (le_refl 0) (le_refl 0) (by omega)
  exact BitVec.eq_of_toNat_eq (by omega)

theorem asr_zero : asr 0 scale = 0 := by decide

/-- The neutral axis is exact (R179 (a)). -/
theorem revPixel_neutral (y x : Byte) : revPixel ⟨y, 128, 128, x⟩ = ⟨y, y, y, x⟩ := by
  have hrCr := reverse_entry_center (r := .rCr) (by decide)
  have hgCb := reverse_entry_center (r := .gCb) (by decide)
  have hgCr := reverse_entry_center (r := .gCr) (by decide)
  have hbCb := reverse_entry_center (r := .bCb) (by decide)
  simp only [revPixel, redValue, greenValue, blueValue, hrCr, hgCb, hgCr, hbCb, add_zero, asr_zero, saturate_toNat]

/-! ### The run of a command -/

/-- From its launch to its completion a command is in progress for `k <= N` pixel steps, and then memory is that of `Run`
(44_engine_control.md R202). -/
theorem exec_command_completes (op : Op) {dst src : Nat} {pixels : BitVec 32} {s : State} (hb : s.busy = false)
    (hw : s.hostWaits = true) (hwf : s.mem.wf = true) (ok : LaunchOk s.aw s.admission dst src pixels) :
    ∃ t u, exec (command op dst src pixels) s = .next t ∧
      (∀ k ≤ pixels.toNat, ∃ v, steps k t = .next v ∧ v.busy = true) ∧
      steps (pixels.toNat + 1) t = .next u ∧ u.busy = false ∧
      ∀ a, u.mem.read a = runByte op src dst pixels.toNat s.mem a := by
  obtain ⟨u, hu, hidle, hrun⟩ := runCommand_completes (op := op) hb hw hwf ok
  have hn : (s.latch op src dst pixels).n.toNat = pixels.toNat := latched_count ok.count
  refine ⟨s.latch op src dst pixels, u, (exec_idle hb).trans (launch_next ok), fun k hk => ?busy,
    (runCommand_of_launchOk hb ok).symm.trans hu, hidle, hrun⟩
  have hleft : (s.latch op src dst pixels).idx.toNat + k ≤ (s.latch op src dst pixels).n.toNat := by
    rw [hn, State.latch_idx]
    exact (Nat.zero_add k).trans_le hk
  obtain ⟨m, idx, hsteps, running, -⟩ := (ok.latch_running hw hwf op).advances hleft
  exact ⟨_, hsteps, running.busy⟩

/-! ### The statements -/

/-- Settles O15: the ranges are those of the terms, widened by a byte; the bounds that are reached are evaluated. -/
theorem preclampRanges : Obligations.PreclampRanges := by
  unfold Obligations.PreclampRanges
  refine ⟨fun y cb cr => ?ranges, ?red0, ?red255, ?green0, ?green255, ?blue0, ?blue255⟩
  case ranges =>
    obtain ⟨hredLow, hredHigh⟩ := redValue_range y cr
    obtain ⟨hgreenLow, hgreenHigh⟩ := greenValue_range y cb cr
    obtain ⟨hblueLow, hblueHigh⟩ := blueValue_range y cb
    exact ⟨hredLow, hredHigh, hgreenLow, hgreenHigh, hblueLow, hblueHigh, greenSum_range cb cr⟩
  all_goals decide +kernel

/-- Settles O36: the completed run left the memory of `Run`, which gives the destination pixels and every other byte. -/
theorem ycc2rgbConvertsTheRun : Obligations.Ycc2rgbConvertsTheRun := by
  unfold Obligations.Ycc2rgbConvertsTheRun
  intro s dst src pixels hb hw hwf ok
  obtain ⟨t, u, hlaunch, hbusy, hsteps, hidle, hrun⟩ := exec_command_completes .ycc2rgb hb hw hwf ok
  exact ⟨t, u, hlaunch, hbusy, hsteps, hidle, fun i hi => readPixel_of_run hrun hi,
    fun a ha => (hrun a).trans (runByte_outside ha .ycc2rgb src s.mem)⟩

/-- Settles O10: each output is its value before the clamp, which is R170's by definition, clamped. -/
theorem revPixelFormula : Obligations.RevPixelFormula := by
  unfold Obligations.RevPixelFormula
  exact fun y cb cr x => ⟨revPixel_r ⟨y, cb, cr, x⟩, revPixel_g ⟨y, cb, cr, x⟩, revPixel_b ⟨y, cb, cr, x⟩, rfl⟩

/-- Settles O12: on the neutral axis no term is added, for every `Y`; the extremes and the clamp edges are evaluated for `X = 0`. -/
theorem reverseKnownValues : Obligations.ReverseKnownValues := by
  unfold Obligations.ReverseKnownValues
  refine ⟨fun y x => ?neutral, fun x => ?extremes, fun x => ?edges⟩
  case neutral =>
    exact ⟨revPixel_neutral y x, reverse_entry_center (by decide), reverse_entry_center (by decide),
      reverse_entry_center (by decide), reverse_entry_center (by decide)⟩
  case extremes =>
    refine ⟨revPixel_eq_of_zero (q := ⟨0, 135, 0, 0⟩) ?_ x, ?_, ?_, ?_,
      revPixel_eq_of_zero (q := ⟨255, 120, 255, 0⟩) ?_ x, ?_, ?_, ?_, revPixel_eq_of_zero (q := ⟨75, 255, 28, 0⟩) ?_ x, ?_⟩
    all_goals decide +kernel
  case edges =>
    refine ⟨revPixel_eq_of_zero (q := ⟨0, 255, 1, 0⟩) ?_ x, ?_, ?_, ?_, revPixel_eq_of_zero (q := ⟨254, 0, 0, 0⟩) ?_ x, ?_, ?_, ?_⟩
    all_goals decide +kernel

end Sys2Proof.Machine
end

section
/-!
PROOFS. `IDX` is an exact description of progress (60_exceptions.md R225). A pixel step finds its source pixel as it was at the launch
(20_memory.md R54, R60), so it writes the bytes of `Run` and no others; the host's writes lie outside `S` and `D`
(20_memory.md R68); and whatever clears `BUSY` leaves nothing to show.
-/

namespace Sys2Proof.Machine

/-! ### Progress under each update of the state -/

theorem State.Progress.of_idle {s : State} (hb : s.busy = false) : s.Progress :=
  fun busy => absurd busy (by simp [hb])

theorem State.Progress.setHost {s : State} (h : s.Progress) (moves : List HostMove) : (s.setHost moves).Progress := h

/-- A launch is the start: no destination byte lies below `DST`, and memory is the copy that the launch made of it. -/
theorem State.latch_progress (s : State) (op : Op) (src dst : Nat) (pixels : BitVec 32) :
    (s.latch op src dst pixels).Progress := by
  refine fun _ => ⟨fun a hd ha => ?_, fun _ _ _ => rfl, fun _ _ _ => rfl⟩
  exact absurd (inRegion_iff.mp hd).1 (Nat.not_le.mpr ha)

/-- A write that spares `S` and `D` (20_memory.md R68). -/
theorem State.Progress.setMem_write {s : State} (h : s.Progress) {a : Nat}
    (free : ¬ (s.busy = true ∧ (s.inSource a = true ∨ s.inDest a = true))) (b : Byte) :
    (s.setMem (s.mem.write a b)).Progress := by
  intro hb
  obtain ⟨converted, ahead, source⟩ := h hb
  have spared : ∀ c, s.inSource c = true ∨ s.inDest c = true → (s.mem.write a b).read c = s.mem.read c :=
    fun c hc => Memory.read_write_other s.mem b fun hca => free ⟨hb, hca ▸ hc⟩
  exact ⟨fun c hd hc => (spared c (Or.inr hd)).trans (converted c hd hc),
    fun c hd hc => (spared c (Or.inr hd)).trans (ahead c hd hc),
    fun c hs hd => (spared c (Or.inl hs)).trans (source c hs hd)⟩

/-- The source pixel of the next pixel step holds what it held at the launch: it lies outside `D`, or, in place, it is the
destination pixel not yet written. -/
theorem State.Progress.sourcePixel_eq {s : State} (h : s.Progress) (hl : s.Legal) (hb : s.busy = true)
    (hi : s.idx.toNat < s.n.toNat) : s.mem.readPixel s.sourceAddr = s.before.readPixel s.sourceAddr := by
  obtain ⟨-, ahead, source⟩ := h hb
  refine Memory.readPixel_congr fun c hc => ?_
  have hsource := State.inSource_of_pixel hi hc
  rcases hl.overlap hb with disjoint | inPlace
  · exact source c hsource (Bool.eq_false_iff.mpr fun hdest => disjoint c ⟨hsource, hdest⟩)
  · have hdest : s.destAddr = s.sourceAddr := by rw [State.destAddr, inPlace, State.sourceAddr]
    rw [← hdest] at hc
    exact ahead c (State.inDest_of_pixel hi hc) hc.1

theorem State.Progress.pixelDone {s : State} (h : s.Progress) (hwf : s.mem.wf = true) (hl : s.Legal)
    (hi : s.idx.toNat < s.n.toNat) :
    (s.pixelDone (s.mem.writePixel s.destAddr (convert s.op (s.mem.readPixel s.sourceAddr)))).Progress := by
  intro hb
  have hpixel := h.sourcePixel_eq hl hb hi
  obtain ⟨converted, ahead, source⟩ := h hb
  rw [State.pixelDone_destAddr hi]
  refine ⟨fun a hd ha => ?converted, fun a hd ha => ?ahead, fun a hs hd => ?source⟩
  case converted =>
    by_cases hnew : s.destAddr ≤ a
    · exact State.read_convertedPixel hwf hi hpixel ⟨hnew, ha⟩
    · exact (Memory.read_writePixel_other _ _ (by omega)).trans (converted a hd (by omega))
  case ahead => exact (Memory.read_writePixel_other _ _ (by omega)).trans (ahead a hd (by omega))
  case source =>
    have outside : ¬ (s.destAddr ≤ a ∧ a < s.destAddr + 4) :=
      fun ha => Bool.eq_false_iff.mp hd (State.inDest_of_pixel (s := s) hi ha)
    exact (Memory.read_writePixel_other _ _ outside).trans (source a hs hd)

/-! ### Commands and steps -/

theorem exec_keeps_progress {i : Instr} {s t : State} (hl : s.Legal) (hwf : s.mem.wf = true) (hs : s.Progress)
    (h : exec i s = .next t) : t.Progress := by
  rcases exec_next h with ⟨-, op, dst, src, pixels, -, -, rfl⟩ | ⟨-, hi, -, -, rfl⟩ | ⟨-, -, rfl⟩
  · exact s.latch_progress op src dst pixels
  · exact hs.pixelDone hwf hl hi
  · exact .of_idle rfl

theorem State.takeReset_progress (s : State) : s.takeReset.Progress := by
  obtain ⟨m, k, e⟩ := s.takeReset_eq_resetTo
  exact .of_idle (e ▸ rfl)

theorem step_keeps_progress {s t : State} (hl : s.Legal) (hwf : s.mem.wf = true) (hs : s.Progress)
    (h : step s = .next t) : t.Progress := by
  obtain ⟨moves, ⟨-, rfl⟩ | ⟨i, e⟩ | ⟨a, b, rest, -, -, free, -, rfl⟩ | ⟨a, rest, -, rfl⟩ | ⟨rest, -, rfl⟩⟩ := step_next h
  · exact hs.setHost moves
  · exact exec_keeps_progress (hl.setHost moves) hwf (hs.setHost moves) e
  · exact (hs.setHost moves).setMem_write free b
  · exact hs.setHost moves
  · exact (s.setHost moves).takeReset_progress

/-- Settles O43, by what a step can have done: a pixel step converts a source pixel that is still the launch's. -/
theorem stepKeepsProgressExact : Obligations.StepKeepsProgressExact := by
  unfold Obligations.StepKeepsProgressExact
  exact fun _ _ hl hc => step_keeps_progress hl hc.mem

end Sys2Proof.Machine
end

section
/-!
PROOFS. The control of the engine (44_engine_control.md R191 to R201): who takes a step, what a launch latches or refuses, and the
two steps of a command in progress. Each rule is proved once for both commands, and the statements about one command are uses of it.
-/

namespace Sys2Proof.Machine

/-! ### Taking a descriptor from the port -/

theorem acceptCommand_ok {cmd : CmdWord} {i : Instr} (h : decode cmd = .ok i) (s : State) :
    acceptCommand cmd s = exec i s := by
  simp [acceptCommand, h]

theorem acceptCommand_reservedBits {cmd : CmdWord} (h : decode cmd = .error .reservedBits) (s : State) :
    acceptCommand cmd s = .refused (.launch .reservedBits) := by
  simp [acceptCommand, h]

/-- An idle machine of the width that has packed descriptors takes the one presented. -/
theorem step_command {s : State} {cmd : CmdWord} {rest : List HostMove} (hb : s.busy = false)
    (haw : s.aw = Config.packedAW) (hh : s.host = .command cmd :: rest) :
    step s = acceptCommand cmd (s.setHost rest) :=
  step_granted hh ((grants_command s cmd).mpr ⟨hb, haw⟩)

/-- An idle machine takes the signals of a command whose addresses have `AW` bits. -/
theorem step_signals {s : State} {op : Op} {dst src : Nat} {pixels : BitVec 32} {rest : List HostMove}
    (hb : s.busy = false) (hdst : dst < 2 ^ s.aw) (hsrc : src < 2 ^ s.aw)
    (hh : s.host = .signals op dst src pixels :: rest) :
    step s = exec (command op dst src pixels) (s.setHost rest) :=
  step_granted hh ((grants_signals s op dst src pixels).mpr ⟨hb, hdst, hsrc⟩)

theorem decodeTableWord_eq_some_iff {nbits w : Nat} {i : Instr} :
    decodeTableWord nbits w = some i ↔ decode (packTableWord nbits w) = .ok i := by
  unfold decodeTableWord
  cases decode (packTableWord nbits w) <;> simp

/-- A busy machine accepts no command (R201): its step is that of the command in progress. -/
theorem step_presented_busy {s : State} {m : HostMove} {rest : List HostMove} (hb : s.busy = true)
    (hh : s.host = m :: rest)
    (presented : (∃ cmd, m = .command cmd) ∨ ∃ op dst src pixels, m = .signals op dst src pixels) :
    step s = exec s.current s := by
  refine step_waiting_busy hb hh ?_
  rcases presented with ⟨cmd, rfl⟩ | ⟨op, dst, src, pixels, rfl⟩
  · simp [hb]
  · simp [hb]

/-! ### Launch -/

theorem exec_launches {op : Op} {dst src : Nat} {pixels : BitVec 32} {s : State} (hb : s.busy = false)
    (ok : LaunchOk s.aw s.admission dst src pixels) :
    exec (command op dst src pixels) s = .next (s.latch op src dst pixels) :=
  (exec_idle hb).trans (launch_next ok)

theorem exec_refused {op : Op} {dst src : Nat} {pixels : BitVec 32} {s : State} {reason : RefusalReason}
    (hb : s.busy = false) (h : launchRefusal s.aw s.admission src dst pixels = some reason) :
    exec (command op dst src pixels) s = .refused (.launch reason) := by
  rw [exec_idle hb, launch, h]

/-- For an address of `aw` bits only the end of the region can wrap (R192 rows 3 and 4). -/
theorem wraps_of_lt {aw addr : Nat} (h : addr < 2 ^ aw) (p : Nat) : wraps aw addr p = true ↔ 2 ^ aw < addr + 4 * p := by
  rw [wraps_iff]
  omega

section
/-! The rows 2 to 6 of R192, each with the rows before it met. -/

variable {aw : Nat} {admission : List Region} {src dst : Nat} {pixels : BitVec 32}

theorem launchRefusal_negativeCount (h : pixels.toInt < 0) :
    launchRefusal aw admission src dst pixels = some .negativeCount :=
  if_pos h

theorem launchRefusal_srcWrap (hcount : 0 ≤ pixels.toInt) (h : wraps aw src pixels.toNat = true) :
    launchRefusal aw admission src dst pixels = some .srcWrap := by
  rw [launchRefusal, if_neg (Int.not_lt.mpr hcount), if_pos h]

theorem launchRefusal_dstWrap (hcount : 0 ≤ pixels.toInt) (hsrc : ¬ wraps aw src pixels.toNat = true)
    (h : wraps aw dst pixels.toNat = true) : launchRefusal aw admission src dst pixels = some .dstWrap := by
  rw [launchRefusal, if_neg (Int.not_lt.mpr hcount), if_neg hsrc, if_pos h]

theorem launchRefusal_partialOverlap (hcount : 0 ≤ pixels.toInt) (hsrc : ¬ wraps aw src pixels.toNat = true)
    (hdst : ¬ wraps aw dst pixels.toNat = true) (h : ¬ RegionsLegal dst src pixels.toNat) :
    launchRefusal aw admission src dst pixels = some .partialOverlap := by
  rw [← overlapLegal_iff, Bool.not_eq_true, ← Bool.not_eq_true'] at h
  rw [launchRefusal, if_neg (Int.not_lt.mpr hcount), if_neg hsrc, if_neg hdst, if_pos h]

theorem launchRefusal_notAdmitted (hcount : 0 ≤ pixels.toInt) (hsrc : ¬ wraps aw src pixels.toNat = true)
    (hdst : ¬ wraps aw dst pixels.toNat = true) (hoverlap : RegionsLegal dst src pixels.toNat)
    (h : ¬ FootprintAdmitted admission dst src pixels.toNat) :
    launchRefusal aw admission src dst pixels = some .notAdmitted := by
  rw [← overlapLegal_iff] at hoverlap
  rw [← footprint_iff, Bool.not_eq_true, ← Bool.not_eq_true'] at h
  rw [launchRefusal, if_neg (Int.not_lt.mpr hcount), if_neg hsrc, if_neg hdst, if_neg (by simp [hoverlap]), if_pos h]

end

/-! ### The steps of a command in progress -/

/-- The pixel step of either command (R194, R195, R196): the pixel at `DST + 4*IDX` is the converted pixel at `SRC + 4*IDX`, and
only memory and `IDX` move. -/
theorem exec_pixelStep {s : State} (i : Instr) (hb : s.busy = true) (hi : s.idx.toNat < s.n.toNat)
    (hsrc : s.src + 4 * s.idx.toNat + 4 ≤ 2 ^ s.aw) (hdst : s.dst + 4 * s.idx.toNat + 4 ≤ 2 ^ s.aw) (hwf : s.mem.wf = true) :
    ∃ m, exec i s = .next (s.pixelDone m) ∧
      m.readPixel (s.dst + 4 * s.idx.toNat) = convert s.op (s.mem.readPixel (s.src + 4 * s.idx.toNat)) ∧
      ∀ a, ¬ (s.dst + 4 * s.idx.toNat ≤ a ∧ a < s.dst + 4 * s.idx.toNat + 4) → m.read a = s.mem.read a := by
  have hstep : engineStep s = pixelStep s := if_pos hi
  exact ⟨_, (exec_busy hb).trans (hstep.trans (pixelStep_next hsrc hdst)), Memory.readPixel_writePixel hwf _ _,
    fun _ ha => Memory.read_writePixel_other s.mem _ ha⟩

theorem exec_completion {s : State} (i : Instr) (hb : s.busy = true) (hi : s.idx.toNat = s.n.toNat) :
    exec i s = .next s.complete :=
  (exec_busy hb).trans (engineStep_completion hi)

/-! ### The statements -/

/-- Settles O25: a busy machine's step is the engine's, whichever command is named, and by the frame of `exec` it keeps the host's
moves and the latched descriptor. -/
theorem busyAcceptsNoCommand : Obligations.BusyAcceptsNoCommand := by
  unfold Obligations.BusyAcceptsNoCommand
  refine fun s hb => ⟨fun i j => (exec_busy hb).trans (exec_busy hb).symm, fun m rest hh presented => ?_⟩
  have hstep := step_presented_busy hb hh presented
  refine ⟨hstep, fun t ht => ?_⟩
  obtain ⟨-, -, hhost, -, -, latched, -⟩ := commandFrame _ s t (hstep.symm.trans ht)
  obtain ⟨hop, hsrc, hdst, hn, -⟩ := latched hb
  exact ⟨hhost, hop, hsrc, hdst, hn⟩

/-- Settles O27: the launch answers the latched state, whose count is the descriptor's. -/
theorem rgb2yccLaunches : Obligations.Rgb2yccLaunches := by
  unfold Obligations.Rgb2yccLaunches
  exact fun s dst src pixels hb ok => ⟨_, exec_launches (op := .rgb2ycc) hb ok, rfl, rfl, rfl, latched_count ok.count, rfl, rfl,
    rfl, rfl, rfl, rfl⟩

/-- Settles O28: as for RGB2YCC, with the other `OP` latched. -/
theorem ycc2rgbLaunches : Obligations.Ycc2rgbLaunches := by
  unfold Obligations.Ycc2rgbLaunches
  exact fun s dst src pixels hb ok => ⟨_, exec_launches (op := .ycc2rgb) hb ok, rfl, rfl, rfl, latched_count ok.count, rfl, rfl,
    rfl, rfl, rfl, rfl⟩

/-- Settles O29: row 1 is the decoder's, rows 2 to 6 are the launch's in this order, and with none failing the launch latches. -/
theorem launchRefusedInOrder : Obligations.LaunchRefusedInOrder := by
  unfold Obligations.LaunchRefusedInOrder
  refine ⟨fun s cmd rest hb haw hh hbit => ?row1, fun s op dst src pixels hb hdst hsrc => ?rows⟩
  case row1 =>
    rw [step_command hb haw hh, acceptCommand_reservedBits ((reservedBitsSpellNoCommand cmd).mpr hbit)]
  case rows =>
    have srcWraps := wraps_of_lt hsrc pixels.toNat
    have dstWraps := wraps_of_lt hdst pixels.toNat
    refine ⟨fun h => exec_refused hb (launchRefusal_negativeCount h), fun hcount =>
      ⟨fun h => exec_refused hb (launchRefusal_srcWrap hcount (srcWraps.mpr h)), fun hsrcFits => ?_⟩⟩
    have srcOk := mt srcWraps.mp (Nat.not_lt.mpr hsrcFits)
    refine ⟨fun h => exec_refused hb (launchRefusal_dstWrap hcount srcOk (dstWraps.mpr h)), fun hdstFits => ?_⟩
    have dstOk := mt dstWraps.mp (Nat.not_lt.mpr hdstFits)
    exact ⟨fun h => exec_refused hb (launchRefusal_partialOverlap hcount srcOk dstOk h), fun hoverlap =>
      ⟨fun h => exec_refused hb (launchRefusal_notAdmitted hcount srcOk dstOk hoverlap h), fun hadmitted =>
        ⟨_, exec_launches hb ⟨hsrc, hdst, hcount, hsrcFits, hdstFits, hoverlap, hadmitted⟩, rfl⟩⟩⟩

/-- Settles O30: the latched `OP` makes the conversion `FwdPixel`. -/
theorem rgb2yccPixelStep : Obligations.Rgb2yccPixelStep := by
  unfold Obligations.Rgb2yccPixelStep
  intro s dst src pixels hb hop hi hsrc hdst hwf
  obtain ⟨m, hexec, hpixel, hother⟩ := exec_pixelStep (.rgb2ycc dst src pixels) hb hi hsrc hdst hwf
  rw [hop] at hpixel
  exact ⟨s.pixelDone m, hexec, hpixel, hother, idx_succ_toNat hi, rfl, rfl, rfl, rfl, rfl⟩

/-- Settles O31: the latched `OP` makes the conversion `RevPixel`. -/
theorem ycc2rgbPixelStep : Obligations.Ycc2rgbPixelStep := by
  unfold Obligations.Ycc2rgbPixelStep
  intro s dst src pixels hb hop hi hsrc hdst hwf
  obtain ⟨m, hexec, hpixel, hother⟩ := exec_pixelStep (.ycc2rgb dst src pixels) hb hi hsrc hdst hwf
  rw [hop] at hpixel
  exact ⟨s.pixelDone m, hexec, hpixel, hother, idx_succ_toNat hi, rfl, rfl, rfl, rfl, rfl⟩

/-- Settles O33: an empty command meets every launch precondition, and at its launch `IDX = N` already. -/
theorem zeroCountIsANoOp : Obligations.ZeroCountIsANoOp := by
  unfold Obligations.ZeroCountIsANoOp
  intro s op dst src hb hw hdst hsrc
  have completes : step (s.latch op src dst 0) = .next (s.latch op src dst 0).complete :=
    (step_busy_waiting (s := s.latch op src dst 0) rfl hw).trans (engineStep_completion rfl)
  exact ⟨_, exec_launches hb (launchOk_empty s.admission hsrc hdst), rfl, rfl, rfl, rfl, completes, rfl⟩

/-- Settles O23: with `BUSY = 0` the host has the move of presenting the descriptor, and the step is that move. -/
theorem stepRunsPresentedCommand : Obligations.StepRunsPresentedCommand := by
  unfold Obligations.StepRunsPresentedCommand
  refine ⟨fun s cmd rest i hb haw hh hdecode => ?packed, fun s op dst src pixels rest hb hdst hsrc hh => ?signals,
    fun s nbits w i hword => ?tableWord⟩
  case packed => exact (step_command hb haw hh).trans (acceptCommand_ok hdecode _)
  case signals => exact step_signals hb hdst hsrc hh
  case tableWord =>
    have hpresented : step (s.withFetchWord nbits w) = acceptCommand _ ((s.withFetchWord nbits w).setHost s.host) :=
      step_command rfl rfl rfl
    exact hpresented.trans (acceptCommand_ok (decodeTableWord_eq_some_iff.mp hword) _)

/-- Settles O24: a host that waits or lets a turn pass leaves the turn to the engine. -/
theorem stepAdvancesCommandInProgress : Obligations.StepAdvancesCommandInProgress := by
  unfold Obligations.StepAdvancesCommandInProgress
  refine fun s hb => ⟨fun hw => ?waits, fun rest hh => ?passes⟩
  case waits => exact (step_busy_waiting hb hw).trans (exec_busy hb).symm
  case passes =>
    calc step s = engineTurn (s.setHost rest) := step_granted hh (grants_idle s)
      _ = engineStep (s.setHost rest) := engineTurn_busy hb
      _ = exec s.current (s.setHost rest) := (exec_busy (s := s.setHost rest) hb).symm

/-- Settles O32: with `IDX = N` the engine's step is the completion, whichever command stands to it. -/
theorem completionClearsBusyOnly : Obligations.CompletionClearsBusyOnly := by
  unfold Obligations.CompletionClearsBusyOnly
  exact fun s dst src pixels hb hi => ⟨exec_completion (.rgb2ycc dst src pixels) hb hi,
    exec_completion (.ycc2rgb dst src pixels) hb hi⟩

end Sys2Proof.Machine
end

section
/-!
PROOFS. What ends a run (60_exceptions.md R221, R234): a step is an engine's turn, a move of the host that always takes effect, or the
answer to a descriptor given to an idle machine. Only the last can refuse, and an engine's turn goes on from every legal state.
-/

namespace Sys2Proof.Machine

/-- The host's next move presents a descriptor, packed or as signals (30_encoding.md R85). -/
def State.Presents (s : State) : Prop :=
  ∃ m rest, s.host = m :: rest ∧ ((∃ cmd, m = .command cmd) ∨ ∃ op dst src pixels, m = .signals op dst src pixels)

/-! ### A descriptor given to an idle machine -/

theorem exec_idle_answers {s : State} (hb : s.busy = false) (i : Instr) :
    (∃ t, exec i s = .next t) ∨ ∃ reason, exec i s = .refused (.launch reason) := by
  obtain ⟨op, dst, src, pixels, rfl⟩ := instr_eq_command i
  rw [exec_idle hb]
  rcases launch_cases op src dst pixels s with ⟨-, launched⟩ | ⟨reason, -, refused⟩
  · exact .inl ⟨_, launched⟩
  · exact .inr ⟨reason, refused⟩

theorem acceptCommand_idle_answers {s : State} (hb : s.busy = false) (cmd : CmdWord) :
    (∃ t, acceptCommand cmd s = .next t) ∨ ∃ reason, acceptCommand cmd s = .refused (.launch reason) := by
  cases hd : decode cmd with
  | error e =>
    cases e
    exact .inr ⟨_, acceptCommand_reservedBits hd s⟩
  | ok i =>
    rw [acceptCommand_ok hd]
    exact exec_idle_answers hb i

/-! ### The engine's turn -/

/-- A legal busy engine has a step, with `IDX < N` the pixel step and with `IDX = N` the completion (44_engine_control.md R194,
R197); an idle one waits. -/
theorem State.Legal.engineTurn_goes_on {s : State} (h : s.Legal) : ∃ t, engineTurn s = .next t := by
  cases hb : s.busy with
  | false => exact ⟨s, engineTurn_idle hb⟩
  | true =>
    rw [engineTurn_busy hb]
    rcases Nat.lt_or_eq_of_le (h.index hb) with below | done
    · exact ⟨_, engineStep_pixel h hb below⟩
    · exact ⟨_, engineStep_completion done⟩

theorem engineTurn_not_refused (s : State) (r : Refusal) : engineTurn s ≠ .refused r := by
  cases hb : s.busy with
  | false => simp [engineTurn_idle hb]
  | true =>
    rw [engineTurn_busy hb]
    rcases engineStep_cases s with ⟨-, -, -, e⟩ | ⟨-, -, e⟩ | ⟨-, e⟩ | ⟨-, e⟩
    all_goals simp [e]

/-! ### The step -/

/-- Everything a step can answer, but for what the engine's turn answers. -/
theorem step_cases (s : State) :
    (∃ moves, step s = engineTurn (s.setHost moves)) ∨ (∃ t, step s = .next t) ∨
      (s.busy = false ∧ s.Presents ∧ ∃ reason, step s = .refused (.launch reason)) := by
  cases hh : s.host with
  | nil => exact .inl ⟨s.host, step_no_move hh⟩
  | cons m rest =>
    cases hg : s.grants m with
    | false => exact .inl ⟨s.host, step_waiting hh hg⟩
    | true =>
      rw [step_granted hh hg]
      cases m with
      | command cmd =>
        have hb := ((grants_command s cmd).mp hg).1
        exact .inr ((acceptCommand_idle_answers (s := s.setHost rest) hb cmd).imp_right
          fun refused => ⟨hb, ⟨_, rest, hh, .inl ⟨cmd, rfl⟩⟩, refused⟩)
      | signals op dst src pixels =>
        have hb := ((grants_signals s op dst src pixels).mp hg).1
        exact .inr ((exec_idle_answers (s := s.setHost rest) hb (command op dst src pixels)).imp_right
          fun refused => ⟨hb, ⟨_, rest, hh, .inr ⟨op, dst, src, pixels, rfl⟩⟩, refused⟩)
      | write a b => exact .inr (.inl ⟨_, rfl⟩)
      | read a => exact .inr (.inl ⟨_, rfl⟩)
      | reset => exact .inr (.inl ⟨_, rfl⟩)
      | idle => exact .inl ⟨rest, rfl⟩

/-- From a legal state the only step without a next state is an idle machine's refusal. -/
theorem State.Legal.step_answers {s : State} (h : s.Legal) :
    (∃ t, step s = .next t) ∨ (s.busy = false ∧ ∃ reason, step s = .refused (.launch reason)) := by
  rcases step_cases s with ⟨moves, engine⟩ | next | ⟨hb, -, refused⟩
  · exact .inl (engine ▸ (h.setHost moves).engineTurn_goes_on)
  · exact .inl next
  · exact .inr ⟨hb, refused⟩

/-- 60_exceptions.md R221 closes the list of reasons. -/
theorem RefusalReason.mem_six (reason : RefusalReason) :
    reason ∈ [RefusalReason.reservedBits, .negativeCount, .srcWrap, .dstWrap, .partialOverlap, .notAdmitted] := by
  cases reason <;> decide

/-! ### The statements -/

/-- Settles O44: a legal state's step goes on or refuses, and refuses with `BUSY = 0` only. -/
theorem launchedCommandNeverStops : Obligations.LaunchedCommandNeverStops := by
  unfold Obligations.LaunchedCommandNeverStops
  intro s h
  rcases h.step_answers with ⟨t, next⟩ | ⟨idle, reason, refused⟩
  · exact ⟨fun f => by simp [next], fun _ => ⟨t, next⟩⟩
  · exact ⟨fun f => by simp [refused], fun busy => by simp [idle] at busy⟩

/-- Settles O52, by what a step can answer: neither the engine's turn nor a next state is a refusal. -/
theorem onlyALaunchIsRefused : Obligations.OnlyALaunchIsRefused := by
  unfold Obligations.OnlyALaunchIsRefused
  intro s r h
  rcases step_cases s with ⟨moves, engine⟩ | ⟨t, next⟩ | ⟨idle, presents, reason, refused⟩
  · exact absurd (engine.symm.trans h) (engineTurn_not_refused _ r)
  · exact absurd (next.symm.trans h) nofun
  · exact ⟨idle, presents, reason, reason.mem_six, Host.Outcome.refused.inj (h.symm.trans refused)⟩

end Sys2Proof.Machine
end

section
/-!
PROOFS. Reset and waiting (70_reset_and_hazards.md R250, R252): a reset is granted in every state. To an idle machine it touches no
memory; with a command in progress it fills `D`, and nothing else, with bytes that are each the launch's or `Run`'s.
-/

namespace Sys2Proof.Machine

/-! ### Reset -/

/-- The host may reset in any state (R250). -/
theorem step_reset {s : State} {rest : List HostMove} (hh : s.host = .reset :: rest) :
    step s = .next (s.setHost rest).takeReset :=
  step_granted hh (grants_reset s)

/-- Either choice of the free value (log entry 7) is one of the two values R252 allows. -/
theorem State.drawnByte_old_or_new (s : State) (a : Nat) :
    s.drawnByte a = s.before.read a ∨ s.drawnByte a = runByte s.op s.src s.dst s.n.toNat s.before a := by
  unfold State.drawnByte
  split
  case isTrue => exact .inr rfl
  case isFalse => exact .inl rfl

/-- A byte of `D` after a reset that interrupts the command is the one drawn for it. -/
theorem State.read_takeReset_inDest {s : State} (hb : s.busy = true) (hwf : s.mem.wf = true) {a : Nat}
    (ha : s.inDest a = true) : s.takeReset.mem.read a = s.drawnByte a := by
  rw [State.takeReset_busy hb, State.resetTo_mem]
  exact Memory.read_fill_same hwf (inRegion_iff.mp ha)

/-! ### The statements -/

/-- Settles O50: the reset writes in `D` alone, and there the byte drawn, whichever it is. -/
theorem resetDuringCommand : Obligations.ResetDuringCommand := by
  unfold Obligations.ResetDuringCommand
  intro s rest _ hc hb hh
  obtain ⟨m, k, hreset⟩ := (s.setHost rest).takeReset_eq_resetTo
  refine ⟨_, step_reset hh, by rw [hreset, State.resetTo_busy], by rw [hreset, State.resetTo_host, State.setHost_host],
    (takeReset_keeps_parameters _).1, (takeReset_keeps_parameters _).2, fun a ha => ?outside, fun a ha => ?inside⟩
  case outside => exact (s.setHost rest).takeReset_writesOnlyDest.2 hb a ha
  case inside =>
    rw [State.read_takeReset_inDest (s := s.setHost rest) hb hc.mem ha]
    exact (s.setHost rest).drawnByte_old_or_new a

/-- Settles O49: to an idle machine a reset gives the memory it had, and it keeps the parameters and what is left of the moves. -/
theorem resetWhileIdle : Obligations.ResetWhileIdle := by
  unfold Obligations.ResetWhileIdle
  intro s rest hb hh
  have hreset : (s.setHost rest).takeReset = (s.setHost rest).resetTo s.mem s.draws := State.takeReset_idle hb
  exact ⟨_, (step_reset hh).trans (congrArg _ hreset), rfl, rfl, rfl, rfl, rfl⟩

/-- Settles O26: with no move, or an idle one, the turn is the engine's, and an idle engine waits. -/
theorem idleMachineWaits : Obligations.IdleMachineWaits := by
  unfold Obligations.IdleMachineWaits
  refine fun s hb => ⟨fun hh => ?noMove, fun rest hh => ?idleMove⟩
  case noMove => exact (step_no_move hh).trans (engineTurn_idle hb)
  case idleMove =>
    calc step s = engineTurn (s.setHost rest) := step_granted hh (grants_idle s)
      _ = .next (s.setHost rest) := engineTurn_idle hb

end Sys2Proof.Machine
end
